-- ==== Sys2Proof/Word.lean ====
section
/-! DEFINITION. The machine's word types (spec/10_state.md R20, R24, R36; spec/30_encoding.md R96). -/

namespace Sys2Proof

/-- One byte of memory or of an instruction. -/
abbrev Byte := BitVec 8

/-- A vector register: 512 bits, XMM and YMM being its low 128 and 256 bits (R20). -/
abbrev Zmm := BitVec 512

/-- The number of a vector register, 0 to 31 (R96). -/
abbrev VReg := BitVec 5

/-- The number of an opmask register, 0 to 7 (R96). -/
abbrev KReg := BitVec 3

/-- The number of a general register, 0 to 15 (R96). -/
abbrev GReg := BitVec 4

/-- A linear address (spec/20_memory.md R60). -/
abbrev Address := BitVec 64

/-- A set of MXCSR exception flags: IE 0, DE 1, ZE 2, OE 3, UE 4, PE 5 (spec/10_state.md R28). -/
abbrev Flags := BitVec 6

end Sys2Proof
end

