-- ==== Sys2Proof/Config.lean ====
section
/-! DEFINITION. What an implementation fixes: the operating modes, and the two approximation functions the spec leaves
to the implementation, as constants without a body (free values). -/

namespace Sys2Proof

/-- The operating modes (spec/00_scope.md R12, spec/60_exceptions.md R436). -/
inductive Mode where
  | real
  | virtual8086
  | protectedMode
  | compatibility
  | mode64
deriving DecidableEq, Repr

namespace Config

/-- FREE VALUE (log entry 23): the implementation's approximation of `1/x` for a BF16 pattern. VRCPBF16 uses it where it
meets the constraints of spec/42_bf16_misc.md R236. -/
opaque rcp14Free : BitVec 16 → BitVec 16

/-- FREE VALUE (log entry 23): the implementation's approximation of `1/sqrt(x)` for a BF16 pattern. VRSQRTBF16 uses it
where it meets the constraints of spec/42_bf16_misc.md R239. -/
opaque rsqrt14Free : BitVec 16 → BitVec 16

end Config
end Sys2Proof
end

