-- ==== Sys2Proof/Syntax.lean ====
section
/-! DEFINITION. The syntax of the 262 instruction forms of spec/opcode_table.json (spec/30_encoding.md R91, R105, R110):
operands as the encoding names them, the instructions, and the 102 encodings `Op` behind them. -/

namespace Sys2Proof

/-- Vector lengths (spec/00_scope.md R10). -/
inductive VL where
  | v128
  | v256
  | v512
deriving DecidableEq, Repr

/-- The length in bits. -/
def VL.bits : VL → Nat
  | .v128 => 128
  | .v256 => 256
  | .v512 => 512

/-- The length in bytes. -/
def VL.bytes : VL → Nat
  | .v128 => 16
  | .v256 => 32
  | .v512 => 64

/-- The segments a memory operand can name (spec/10_state.md R44, spec/20_memory.md R62). -/
inductive Seg where
  | es
  | cs
  | ss
  | ds
  | fs
  | gs
deriving DecidableEq, Repr

/-- The legacy bytes that may stand before 62H: segment overrides and the address size byte 67H (R91). -/
inductive LegacyPrefix where
  | seg (s : Seg)
  | addr32
deriving DecidableEq, Repr

/-- A displacement: none, the compressed byte of spec/20_memory.md R63, or 32 bits (R95). -/
inductive Disp where
  | none
  | d8 (v : BitVec 8)
  | d32 (v : BitVec 32)
deriving DecidableEq, Repr

/-- The memory forms of ModRM and SIB (R95, spec/20_memory.md R62). -/
inductive Addr where
  /-- `[base + disp]`, no SIB byte. -/
  | base (b : GReg) (d : Disp)
  /-- mod 00, rm 101: relative to the next instruction in 64-bit mode, absolute otherwise. -/
  | disp32 (d : BitVec 32)
  /-- `[base + index * 2^scale + disp]`; index number 4 stands for no index. -/
  | sib (scale : BitVec 2) (index base : GReg) (d : Disp)
  /-- mod 00 with SIB base 101: `[index * 2^scale + disp32]`. -/
  | sibDisp32 (scale : BitVec 2) (index : GReg) (d : BitVec 32)
deriving DecidableEq, Repr

/-- What `ModRM.r/m` and `EVEX.b` name together (R102). -/
inductive Loc where
  | reg (r : VReg)
  /-- register with embedded rounding `rc` (and SAE). -/
  | regEr (r : VReg) (rc : BitVec 2)
  /-- register with SAE. -/
  | regSae (r : VReg)
  | mem (a : Addr)
  /-- memory with embedded broadcast. -/
  | bcst (a : Addr)
deriving DecidableEq, Repr

/-- The `MODRM.R/M` operand with the legacy bytes that stand before the instruction. -/
structure RM where
  pfx : List LegacyPrefix
  loc : Loc
deriving DecidableEq, Repr

/-- `xmm1{k1}{z}, xmm2, r/m` (shapes RVM and RVMI of R105). -/
structure VecOp3 where
  dest : VReg
  src1 : VReg
  rm   : RM
  mask : KReg
  zero : Bool
deriving DecidableEq, Repr

/-- `xmm1{k1}{z}, r/m` (shapes RM and RMI). -/
structure VecOp2 where
  dest : VReg
  rm   : RM
  mask : KReg
  zero : Bool
deriving DecidableEq, Repr

/-- `k1{k2}, xmm2, r/m`. -/
structure MaskOp3 where
  dest : KReg
  src1 : VReg
  rm   : RM
  mask : KReg
deriving DecidableEq, Repr

/-- `k1{k2}, r/m`. -/
structure MaskOp2 where
  dest : KReg
  rm   : RM
  mask : KReg
deriving DecidableEq, Repr

/-- A vector register and r/m, without a mask: the compares and VMOVD, VMOVW (shapes RM-cmp, RM, MR). -/
structure RegRm where
  reg : VReg
  rm  : RM
deriving DecidableEq, Repr

/-- A general register and r/m: the scalar converts. -/
structure GprRm where
  dest : GReg
  rm   : RM
deriving DecidableEq, Repr

/-- The 102 encodings (map, pp, W, opcode) of R110: a mnemonic, or one of its two encodings. -/
inductive Op where
  | vaddbf16
  | vcmpbf16
  | vcomisbf16
  | vdivbf16
  | vfmadd132bf16
  | vfmadd213bf16
  | vfmadd231bf16
  | vfmsub132bf16
  | vfmsub213bf16
  | vfmsub231bf16
  | vfnmadd132bf16
  | vfnmadd213bf16
  | vfnmadd231bf16
  | vfnmsub132bf16
  | vfnmsub213bf16
  | vfnmsub231bf16
  | vfpclassbf16
  | vgetexpbf16
  | vgetmantbf16
  | vmaxbf16
  | vminbf16
  | vmulbf16
  | vrcpbf16
  | vreducebf16
  | vrndscalebf16
  | vrsqrtbf16
  | vscalefbf16
  | vsqrtbf16
  | vsubbf16
  | vcomxsd
  | vcomxsh
  | vcomxss
  | vucomxsd
  | vucomxsh
  | vucomxss
  | vcvt2ph2bf8
  | vcvt2ph2bf8s
  | vcvt2ph2hf8
  | vcvt2ph2hf8s
  | vcvtph2bf8
  | vcvtph2bf8s
  | vcvtph2hf8
  | vcvtph2hf8s
  | vcvt2ps2phx
  | vcvtbiasph2bf8
  | vcvtbiasph2bf8s
  | vcvtbiasph2hf8
  | vcvtbiasph2hf8s
  | vcvthf82ph
  | vdphphs
  | vmpsadbw
  | vpdpbssd
  | vpdpbssds
  | vpdpbsud
  | vpdpbsuds
  | vpdpbuud
  | vpdpbuuds
  | vpdpwsud
  | vpdpwsuds
  | vpdpwusd
  | vpdpwusds
  | vpdpwuud
  | vpdpwuuds
  | vminmaxbf16
  | vminmaxpd
  | vminmaxph
  | vminmaxps
  | vminmaxsd
  | vminmaxsh
  | vminmaxss
  | vcvtbf162ibs
  | vcvtbf162iubs
  | vcvttbf162ibs
  | vcvttbf162iubs
  | vcvttpd2dqs
  | vcvttpd2qqs
  | vcvttpd2udqs
  | vcvttpd2uqqs
  | vcvtph2ibs
  | vcvtph2iubs
  | vcvttph2ibs
  | vcvttph2iubs
  | vcvttps2dqs
  | vcvtps2ibs
  | vcvtps2iubs
  | vcvttps2ibs
  | vcvttps2iubs
  | vcvttps2qqs
  | vcvttps2udqs
  | vcvttps2uqqs
  | vcvttsd2sisR32
  | vcvttsd2sisR64
  | vcvttsd2usisR32
  | vcvttsd2usisR64
  | vcvttss2sisR32
  | vcvttss2sisR64
  | vcvttss2usisR32
  | vcvttss2usisR64
  | vmovdLoad
  | vmovdStore
  | vmovwLoad
  | vmovwStore
deriving DecidableEq, Repr

/-- The instructions. A row of spec/opcode_table.json is a constructor; the three rows of a packed instruction, which differ
in `EVEX.L'L` and the register width only (R110), are one constructor at its three vector lengths `vl` (262 rows:
80 packed instructions at three lengths and 22 forms without a length). Lean's compiler admits no inductive with as
many constructors with fields as there are rows. -/
inductive Instr where
  | vaddbf16 (vl : VL) (o : VecOp3)
  | vcmpbf16 (vl : VL) (o : MaskOp3) (imm : BitVec 8)
  | vcomisbf16 (o : RegRm)
  | vdivbf16 (vl : VL) (o : VecOp3)
  | vfmadd132bf16 (vl : VL) (o : VecOp3)
  | vfmadd213bf16 (vl : VL) (o : VecOp3)
  | vfmadd231bf16 (vl : VL) (o : VecOp3)
  | vfmsub132bf16 (vl : VL) (o : VecOp3)
  | vfmsub213bf16 (vl : VL) (o : VecOp3)
  | vfmsub231bf16 (vl : VL) (o : VecOp3)
  | vfnmadd132bf16 (vl : VL) (o : VecOp3)
  | vfnmadd213bf16 (vl : VL) (o : VecOp3)
  | vfnmadd231bf16 (vl : VL) (o : VecOp3)
  | vfnmsub132bf16 (vl : VL) (o : VecOp3)
  | vfnmsub213bf16 (vl : VL) (o : VecOp3)
  | vfnmsub231bf16 (vl : VL) (o : VecOp3)
  | vfpclassbf16 (vl : VL) (o : MaskOp2) (imm : BitVec 8)
  | vgetexpbf16 (vl : VL) (o : VecOp2)
  | vgetmantbf16 (vl : VL) (o : VecOp2) (imm : BitVec 8)
  | vmaxbf16 (vl : VL) (o : VecOp3)
  | vminbf16 (vl : VL) (o : VecOp3)
  | vmulbf16 (vl : VL) (o : VecOp3)
  | vrcpbf16 (vl : VL) (o : VecOp2)
  | vreducebf16 (vl : VL) (o : VecOp2) (imm : BitVec 8)
  | vrndscalebf16 (vl : VL) (o : VecOp2) (imm : BitVec 8)
  | vrsqrtbf16 (vl : VL) (o : VecOp2)
  | vscalefbf16 (vl : VL) (o : VecOp3)
  | vsqrtbf16 (vl : VL) (o : VecOp2)
  | vsubbf16 (vl : VL) (o : VecOp3)
  | vcomxsd (o : RegRm)
  | vcomxsh (o : RegRm)
  | vcomxss (o : RegRm)
  | vucomxsd (o : RegRm)
  | vucomxsh (o : RegRm)
  | vucomxss (o : RegRm)
  | vcvt2ph2bf8 (vl : VL) (o : VecOp3)
  | vcvt2ph2bf8s (vl : VL) (o : VecOp3)
  | vcvt2ph2hf8 (vl : VL) (o : VecOp3)
  | vcvt2ph2hf8s (vl : VL) (o : VecOp3)
  | vcvtph2bf8 (vl : VL) (o : VecOp2)
  | vcvtph2bf8s (vl : VL) (o : VecOp2)
  | vcvtph2hf8 (vl : VL) (o : VecOp2)
  | vcvtph2hf8s (vl : VL) (o : VecOp2)
  | vcvt2ps2phx (vl : VL) (o : VecOp3)
  | vcvtbiasph2bf8 (vl : VL) (o : VecOp3)
  | vcvtbiasph2bf8s (vl : VL) (o : VecOp3)
  | vcvtbiasph2hf8 (vl : VL) (o : VecOp3)
  | vcvtbiasph2hf8s (vl : VL) (o : VecOp3)
  | vcvthf82ph (vl : VL) (o : VecOp2)
  | vdphphs (vl : VL) (o : VecOp3)
  | vmpsadbw (vl : VL) (o : VecOp3) (imm : BitVec 8)
  | vpdpbssd (vl : VL) (o : VecOp3)
  | vpdpbssds (vl : VL) (o : VecOp3)
  | vpdpbsud (vl : VL) (o : VecOp3)
  | vpdpbsuds (vl : VL) (o : VecOp3)
  | vpdpbuud (vl : VL) (o : VecOp3)
  | vpdpbuuds (vl : VL) (o : VecOp3)
  | vpdpwsud (vl : VL) (o : VecOp3)
  | vpdpwsuds (vl : VL) (o : VecOp3)
  | vpdpwusd (vl : VL) (o : VecOp3)
  | vpdpwusds (vl : VL) (o : VecOp3)
  | vpdpwuud (vl : VL) (o : VecOp3)
  | vpdpwuuds (vl : VL) (o : VecOp3)
  | vminmaxbf16 (vl : VL) (o : VecOp3) (imm : BitVec 8)
  | vminmaxpd (vl : VL) (o : VecOp3) (imm : BitVec 8)
  | vminmaxph (vl : VL) (o : VecOp3) (imm : BitVec 8)
  | vminmaxps (vl : VL) (o : VecOp3) (imm : BitVec 8)
  | vminmaxsd (o : VecOp3) (imm : BitVec 8)
  | vminmaxsh (o : VecOp3) (imm : BitVec 8)
  | vminmaxss (o : VecOp3) (imm : BitVec 8)
  | vcvtbf162ibs (vl : VL) (o : VecOp2)
  | vcvtbf162iubs (vl : VL) (o : VecOp2)
  | vcvttbf162ibs (vl : VL) (o : VecOp2)
  | vcvttbf162iubs (vl : VL) (o : VecOp2)
  | vcvttpd2dqs (vl : VL) (o : VecOp2)
  | vcvttpd2qqs (vl : VL) (o : VecOp2)
  | vcvttpd2udqs (vl : VL) (o : VecOp2)
  | vcvttpd2uqqs (vl : VL) (o : VecOp2)
  | vcvtph2ibs (vl : VL) (o : VecOp2)
  | vcvtph2iubs (vl : VL) (o : VecOp2)
  | vcvttph2ibs (vl : VL) (o : VecOp2)
  | vcvttph2iubs (vl : VL) (o : VecOp2)
  | vcvttps2dqs (vl : VL) (o : VecOp2)
  | vcvtps2ibs (vl : VL) (o : VecOp2)
  | vcvtps2iubs (vl : VL) (o : VecOp2)
  | vcvttps2ibs (vl : VL) (o : VecOp2)
  | vcvttps2iubs (vl : VL) (o : VecOp2)
  | vcvttps2qqs (vl : VL) (o : VecOp2)
  | vcvttps2udqs (vl : VL) (o : VecOp2)
  | vcvttps2uqqs (vl : VL) (o : VecOp2)
  | vcvttsd2sisR32 (o : GprRm)
  | vcvttsd2sisR64 (o : GprRm)
  | vcvttsd2usisR32 (o : GprRm)
  | vcvttsd2usisR64 (o : GprRm)
  | vcvttss2sisR32 (o : GprRm)
  | vcvttss2sisR64 (o : GprRm)
  | vcvttss2usisR32 (o : GprRm)
  | vcvttss2usisR64 (o : GprRm)
  | vmovdLoad (o : RegRm)
  | vmovdStore (o : RegRm)
  | vmovwLoad (o : RegRm)
  | vmovwStore (o : RegRm)
deriving DecidableEq, Repr

end Sys2Proof
end

