-- ==== Sys2Proof/Machine/Forms.lean ====
section
/-! DEFINITION. The table of the 102 encodings (spec/30_encoding.md R110, R117): what each fixes in the prefix, and what it
allows; the operand sizes of spec/20_memory.md R63 and R65; the length of an instruction (R104); and an instruction
form as an encoding with its operand fields (`Instr.parts`, `Parts.instr`). -/

namespace Sys2Proof

/-- How `EVEX.L'L` is read (R98). -/
inductive LenKind where
  /-- 128, 256 or 512. -/
  | packed
  /-- must be 00 (VMOVD, VMOVW). -/
  | only128
  /-- ignored. -/
  | llig
deriving DecidableEq, Repr

/-- The register file `ModRM.reg` names (R96). -/
inductive DestKind where
  | vector
  | opmask
  | general
deriving DecidableEq, Repr

/-- What `EVEX.b` = 1 means with a register operand (R102). -/
inductive RegB where
  | none
  | er
  | sae
deriving DecidableEq, Repr

/-- Tuple types (R106, spec/20_memory.md R63). -/
inductive Tuple where
  | full
  | half
  | fullMem
  | scalar
  | tuple1
deriving DecidableEq, Repr

/-- Exception classes (spec/60_exceptions.md R421). -/
inductive ExcClass where
  | e2
  | e3
  | e3nf
  | e4
  | e4nf
  | e9nf
  | e10nf
deriving DecidableEq, Repr

/-- The CPUID column of R110. -/
inductive Feature where
  /-- `AVX10.2`. -/
  | avx10v2
  /-- `AVX10.2 OR AVX10_VNNI_INT`. -/
  | avx10v2OrVnniInt
deriving DecidableEq, Repr

/-- Classes that suppress memory faults of masked-off elements (spec/60_exceptions.md R441). -/
def ExcClass.suppresses : ExcClass → Bool
  | .e2 | .e3 | .e4 => true
  | .e3nf | .e4nf | .e9nf | .e10nf => false

/-- Classes that consult the MXCSR mask bits (spec/60_exceptions.md R432). -/
def ExcClass.consultsMasks : ExcClass → Bool
  | .e2 | .e3 | .e3nf => true
  | .e4 | .e4nf | .e9nf | .e10nf => false

/-- One row of R110, without the vector length. -/
structure OpInfo where
  /-- the mmm field (R92) -/
  map     : BitVec 3
  /-- the pp field (R93) -/
  pp      : BitVec 2
  w       : Bool
  opcode  : BitVec 8
  len     : LenKind
  dest    : DestKind
  /-- the form has a VVVV operand (R103) -/
  usesV   : Bool
  /-- the form takes a write mask (R101) -/
  masked  : Bool
  /-- the form takes zeroing-masking (R101) -/
  zeroing : Bool
  bcst    : Bool
  regB    : RegB
  tuple   : Tuple
  /-- bytes of one element of the memory operand (R63, R65, R71) -/
  elem    : Nat
  cls     : ExcClass
  feature : Feature
deriving DecidableEq, Repr

/-- The table of R110. -/
def Op.info : Op → OpInfo
  | .vaddbf16 => ⟨5, 1, false, 0x58, .packed, .vector, true, true, true, true, .none, .full, 2, .e4, .avx10v2⟩
  | .vcmpbf16 => ⟨3, 3, false, 0xC2, .packed, .opmask, true, true, false, true, .none, .full, 2, .e4, .avx10v2⟩
  | .vcomisbf16 => ⟨5, 1, false, 0x2F, .llig, .vector, false, false, false, false, .none, .scalar, 2, .e10nf, .avx10v2⟩
  | .vdivbf16 => ⟨5, 1, false, 0x5E, .packed, .vector, true, true, true, true, .none, .full, 2, .e4, .avx10v2⟩
  | .vfmadd132bf16 => ⟨6, 0, false, 0x98, .packed, .vector, true, true, true, true, .none, .full, 2, .e4, .avx10v2⟩
  | .vfmadd213bf16 => ⟨6, 0, false, 0xA8, .packed, .vector, true, true, true, true, .none, .full, 2, .e4, .avx10v2⟩
  | .vfmadd231bf16 => ⟨6, 0, false, 0xB8, .packed, .vector, true, true, true, true, .none, .full, 2, .e4, .avx10v2⟩
  | .vfmsub132bf16 => ⟨6, 0, false, 0x9A, .packed, .vector, true, true, true, true, .none, .full, 2, .e4, .avx10v2⟩
  | .vfmsub213bf16 => ⟨6, 0, false, 0xAA, .packed, .vector, true, true, true, true, .none, .full, 2, .e4, .avx10v2⟩
  | .vfmsub231bf16 => ⟨6, 0, false, 0xBA, .packed, .vector, true, true, true, true, .none, .full, 2, .e4, .avx10v2⟩
  | .vfnmadd132bf16 => ⟨6, 0, false, 0x9C, .packed, .vector, true, true, true, true, .none, .full, 2, .e4, .avx10v2⟩
  | .vfnmadd213bf16 => ⟨6, 0, false, 0xAC, .packed, .vector, true, true, true, true, .none, .full, 2, .e4, .avx10v2⟩
  | .vfnmadd231bf16 => ⟨6, 0, false, 0xBC, .packed, .vector, true, true, true, true, .none, .full, 2, .e4, .avx10v2⟩
  | .vfnmsub132bf16 => ⟨6, 0, false, 0x9E, .packed, .vector, true, true, true, true, .none, .full, 2, .e4, .avx10v2⟩
  | .vfnmsub213bf16 => ⟨6, 0, false, 0xAE, .packed, .vector, true, true, true, true, .none, .full, 2, .e4, .avx10v2⟩
  | .vfnmsub231bf16 => ⟨6, 0, false, 0xBE, .packed, .vector, true, true, true, true, .none, .full, 2, .e4, .avx10v2⟩
  | .vfpclassbf16 => ⟨3, 3, false, 0x66, .packed, .opmask, false, true, false, true, .none, .full, 2, .e4, .avx10v2⟩
  | .vgetexpbf16 => ⟨6, 0, false, 0x42, .packed, .vector, false, true, true, true, .none, .full, 2, .e4, .avx10v2⟩
  | .vgetmantbf16 => ⟨3, 3, false, 0x26, .packed, .vector, false, true, true, true, .none, .full, 2, .e4, .avx10v2⟩
  | .vmaxbf16 => ⟨5, 1, false, 0x5F, .packed, .vector, true, true, true, true, .none, .full, 2, .e4, .avx10v2⟩
  | .vminbf16 => ⟨5, 1, false, 0x5D, .packed, .vector, true, true, true, true, .none, .full, 2, .e4, .avx10v2⟩
  | .vmulbf16 => ⟨5, 1, false, 0x59, .packed, .vector, true, true, true, true, .none, .full, 2, .e4, .avx10v2⟩
  | .vrcpbf16 => ⟨6, 0, false, 0x4C, .packed, .vector, false, true, true, true, .none, .full, 2, .e4, .avx10v2⟩
  | .vreducebf16 => ⟨3, 3, false, 0x56, .packed, .vector, false, true, true, true, .none, .full, 2, .e4, .avx10v2⟩
  | .vrndscalebf16 => ⟨3, 3, false, 0x08, .packed, .vector, false, true, true, true, .none, .full, 2, .e4, .avx10v2⟩
  | .vrsqrtbf16 => ⟨6, 0, false, 0x4E, .packed, .vector, false, true, true, true, .none, .full, 2, .e4, .avx10v2⟩
  | .vscalefbf16 => ⟨6, 0, false, 0x2C, .packed, .vector, true, true, true, true, .none, .full, 2, .e4, .avx10v2⟩
  | .vsqrtbf16 => ⟨5, 1, false, 0x51, .packed, .vector, false, true, true, true, .none, .full, 2, .e4, .avx10v2⟩
  | .vsubbf16 => ⟨5, 1, false, 0x5C, .packed, .vector, true, true, true, true, .none, .full, 2, .e4, .avx10v2⟩
  | .vcomxsd => ⟨1, 3, true, 0x2F, .llig, .vector, false, false, false, false, .sae, .scalar, 8, .e3nf, .avx10v2⟩
  | .vcomxsh => ⟨5, 2, false, 0x2F, .llig, .vector, false, false, false, false, .sae, .scalar, 2, .e3nf, .avx10v2⟩
  | .vcomxss => ⟨1, 2, false, 0x2F, .llig, .vector, false, false, false, false, .sae, .scalar, 4, .e3nf, .avx10v2⟩
  | .vucomxsd => ⟨1, 3, true, 0x2E, .llig, .vector, false, false, false, false, .sae, .scalar, 8, .e3nf, .avx10v2⟩
  | .vucomxsh => ⟨5, 2, false, 0x2E, .llig, .vector, false, false, false, false, .sae, .scalar, 2, .e3nf, .avx10v2⟩
  | .vucomxss => ⟨1, 2, false, 0x2E, .llig, .vector, false, false, false, false, .sae, .scalar, 4, .e3nf, .avx10v2⟩
  | .vcvt2ph2bf8 => ⟨2, 3, false, 0x74, .packed, .vector, true, true, true, true, .none, .full, 2, .e4nf, .avx10v2⟩
  | .vcvt2ph2bf8s => ⟨5, 3, false, 0x74, .packed, .vector, true, true, true, true, .none, .full, 2, .e4nf, .avx10v2⟩
  | .vcvt2ph2hf8 => ⟨5, 3, false, 0x18, .packed, .vector, true, true, true, true, .none, .full, 2, .e4nf, .avx10v2⟩
  | .vcvt2ph2hf8s => ⟨5, 3, false, 0x1B, .packed, .vector, true, true, true, true, .none, .full, 2, .e4nf, .avx10v2⟩
  | .vcvtph2bf8 => ⟨2, 2, false, 0x74, .packed, .vector, false, true, true, true, .none, .full, 2, .e4nf, .avx10v2⟩
  | .vcvtph2bf8s => ⟨5, 2, false, 0x74, .packed, .vector, false, true, true, true, .none, .full, 2, .e4nf, .avx10v2⟩
  | .vcvtph2hf8 => ⟨5, 2, false, 0x18, .packed, .vector, false, true, true, true, .none, .full, 2, .e4nf, .avx10v2⟩
  | .vcvtph2hf8s => ⟨5, 2, false, 0x1B, .packed, .vector, false, true, true, true, .none, .full, 2, .e4nf, .avx10v2⟩
  | .vcvt2ps2phx => ⟨2, 1, false, 0x67, .packed, .vector, true, true, true, true, .er, .full, 4, .e4nf, .avx10v2⟩
  | .vcvtbiasph2bf8 => ⟨2, 0, false, 0x74, .packed, .vector, true, true, true, true, .none, .full, 2, .e4nf, .avx10v2⟩
  | .vcvtbiasph2bf8s => ⟨5, 0, false, 0x74, .packed, .vector, true, true, true, true, .none, .full, 2, .e4nf, .avx10v2⟩
  | .vcvtbiasph2hf8 => ⟨5, 0, false, 0x18, .packed, .vector, true, true, true, true, .none, .full, 2, .e4nf, .avx10v2⟩
  | .vcvtbiasph2hf8s => ⟨5, 0, false, 0x1B, .packed, .vector, true, true, true, true, .none, .full, 2, .e4nf, .avx10v2⟩
  | .vcvthf82ph => ⟨5, 3, false, 0x1E, .packed, .vector, false, true, true, false, .none, .half, 1, .e2, .avx10v2⟩
  | .vdphphs => ⟨2, 0, false, 0x52, .packed, .vector, true, true, true, true, .none, .full, 4, .e4, .avx10v2⟩
  | .vmpsadbw => ⟨3, 2, false, 0x42, .packed, .vector, true, true, true, false, .none, .fullMem, 1, .e4nf, .avx10v2⟩
  | .vpdpbssd => ⟨2, 3, false, 0x50, .packed, .vector, true, true, true, true, .none, .full, 4, .e4, .avx10v2OrVnniInt⟩
  | .vpdpbssds => ⟨2, 3, false, 0x51, .packed, .vector, true, true, true, true, .none, .full, 4, .e4, .avx10v2OrVnniInt⟩
  | .vpdpbsud => ⟨2, 2, false, 0x50, .packed, .vector, true, true, true, true, .none, .full, 4, .e4, .avx10v2OrVnniInt⟩
  | .vpdpbsuds => ⟨2, 2, false, 0x51, .packed, .vector, true, true, true, true, .none, .full, 4, .e4, .avx10v2OrVnniInt⟩
  | .vpdpbuud => ⟨2, 0, false, 0x50, .packed, .vector, true, true, true, true, .none, .full, 4, .e4, .avx10v2OrVnniInt⟩
  | .vpdpbuuds => ⟨2, 0, false, 0x51, .packed, .vector, true, true, true, true, .none, .full, 4, .e4, .avx10v2OrVnniInt⟩
  | .vpdpwsud => ⟨2, 2, false, 0xD2, .packed, .vector, true, true, true, true, .none, .full, 4, .e4, .avx10v2OrVnniInt⟩
  | .vpdpwsuds => ⟨2, 2, false, 0xD3, .packed, .vector, true, true, true, true, .none, .full, 4, .e4, .avx10v2OrVnniInt⟩
  | .vpdpwusd => ⟨2, 1, false, 0xD2, .packed, .vector, true, true, true, true, .none, .full, 4, .e4, .avx10v2OrVnniInt⟩
  | .vpdpwusds => ⟨2, 1, false, 0xD3, .packed, .vector, true, true, true, true, .none, .full, 4, .e4, .avx10v2OrVnniInt⟩
  | .vpdpwuud => ⟨2, 0, false, 0xD2, .packed, .vector, true, true, true, true, .none, .full, 4, .e4, .avx10v2OrVnniInt⟩
  | .vpdpwuuds => ⟨2, 0, false, 0xD3, .packed, .vector, true, true, true, true, .none, .full, 4, .e4, .avx10v2OrVnniInt⟩
  | .vminmaxbf16 => ⟨3, 3, false, 0x52, .packed, .vector, true, true, true, true, .none, .full, 2, .e4, .avx10v2⟩
  | .vminmaxpd => ⟨3, 1, true, 0x52, .packed, .vector, true, true, true, true, .sae, .full, 8, .e2, .avx10v2⟩
  | .vminmaxph => ⟨3, 0, false, 0x52, .packed, .vector, true, true, true, true, .sae, .full, 2, .e2, .avx10v2⟩
  | .vminmaxps => ⟨3, 1, false, 0x52, .packed, .vector, true, true, true, true, .sae, .full, 4, .e2, .avx10v2⟩
  | .vminmaxsd => ⟨3, 1, true, 0x53, .llig, .vector, true, true, true, false, .sae, .scalar, 8, .e3, .avx10v2⟩
  | .vminmaxsh => ⟨3, 0, false, 0x53, .llig, .vector, true, true, true, false, .sae, .scalar, 2, .e3, .avx10v2⟩
  | .vminmaxss => ⟨3, 1, false, 0x53, .llig, .vector, true, true, true, false, .sae, .scalar, 4, .e3, .avx10v2⟩
  | .vcvtbf162ibs => ⟨5, 3, false, 0x69, .packed, .vector, false, true, true, true, .none, .full, 2, .e4, .avx10v2⟩
  | .vcvtbf162iubs => ⟨5, 3, false, 0x6B, .packed, .vector, false, true, true, true, .none, .full, 2, .e4, .avx10v2⟩
  | .vcvttbf162ibs => ⟨5, 3, false, 0x68, .packed, .vector, false, true, true, true, .none, .full, 2, .e4, .avx10v2⟩
  | .vcvttbf162iubs => ⟨5, 3, false, 0x6A, .packed, .vector, false, true, true, true, .none, .full, 2, .e4, .avx10v2⟩
  | .vcvttpd2dqs => ⟨5, 0, true, 0x6D, .packed, .vector, false, true, true, true, .sae, .full, 8, .e2, .avx10v2⟩
  | .vcvttpd2qqs => ⟨5, 1, true, 0x6D, .packed, .vector, false, true, true, true, .sae, .full, 8, .e2, .avx10v2⟩
  | .vcvttpd2udqs => ⟨5, 0, true, 0x6C, .packed, .vector, false, true, true, true, .sae, .full, 8, .e2, .avx10v2⟩
  | .vcvttpd2uqqs => ⟨5, 1, true, 0x6C, .packed, .vector, false, true, true, true, .sae, .full, 8, .e2, .avx10v2⟩
  | .vcvtph2ibs => ⟨5, 0, false, 0x69, .packed, .vector, false, true, true, true, .er, .full, 2, .e2, .avx10v2⟩
  | .vcvtph2iubs => ⟨5, 0, false, 0x6B, .packed, .vector, false, true, true, true, .er, .full, 2, .e2, .avx10v2⟩
  | .vcvttph2ibs => ⟨5, 0, false, 0x68, .packed, .vector, false, true, true, true, .sae, .full, 2, .e2, .avx10v2⟩
  | .vcvttph2iubs => ⟨5, 0, false, 0x6A, .packed, .vector, false, true, true, true, .sae, .full, 2, .e2, .avx10v2⟩
  | .vcvttps2dqs => ⟨5, 0, false, 0x6D, .packed, .vector, false, true, true, true, .sae, .full, 4, .e2, .avx10v2⟩
  | .vcvtps2ibs => ⟨5, 1, false, 0x69, .packed, .vector, false, true, true, true, .er, .full, 4, .e2, .avx10v2⟩
  | .vcvtps2iubs => ⟨5, 1, false, 0x6B, .packed, .vector, false, true, true, true, .er, .full, 4, .e2, .avx10v2⟩
  | .vcvttps2ibs => ⟨5, 1, false, 0x68, .packed, .vector, false, true, true, true, .sae, .full, 4, .e2, .avx10v2⟩
  | .vcvttps2iubs => ⟨5, 1, false, 0x6A, .packed, .vector, false, true, true, true, .sae, .full, 4, .e2, .avx10v2⟩
  | .vcvttps2qqs => ⟨5, 1, false, 0x6D, .packed, .vector, false, true, true, true, .sae, .half, 4, .e2, .avx10v2⟩
  | .vcvttps2udqs => ⟨5, 0, false, 0x6C, .packed, .vector, false, true, true, true, .sae, .full, 4, .e2, .avx10v2⟩
  | .vcvttps2uqqs => ⟨5, 1, false, 0x6C, .packed, .vector, false, true, true, true, .sae, .half, 4, .e2, .avx10v2⟩
  | .vcvttsd2sisR32 => ⟨5, 3, false, 0x6D, .llig, .general, false, false, false, false, .sae, .scalar, 8, .e3nf, .avx10v2⟩
  | .vcvttsd2sisR64 => ⟨5, 3, true, 0x6D, .llig, .general, false, false, false, false, .sae, .scalar, 8, .e3nf, .avx10v2⟩
  | .vcvttsd2usisR32 => ⟨5, 3, false, 0x6C, .llig, .general, false, false, false, false, .sae, .scalar, 8, .e3nf, .avx10v2⟩
  | .vcvttsd2usisR64 => ⟨5, 3, true, 0x6C, .llig, .general, false, false, false, false, .sae, .scalar, 8, .e3nf, .avx10v2⟩
  | .vcvttss2sisR32 => ⟨5, 2, false, 0x6D, .llig, .general, false, false, false, false, .sae, .scalar, 4, .e3nf, .avx10v2⟩
  | .vcvttss2sisR64 => ⟨5, 2, true, 0x6D, .llig, .general, false, false, false, false, .sae, .scalar, 4, .e3nf, .avx10v2⟩
  | .vcvttss2usisR32 => ⟨5, 2, false, 0x6C, .llig, .general, false, false, false, false, .sae, .scalar, 4, .e3nf, .avx10v2⟩
  | .vcvttss2usisR64 => ⟨5, 2, true, 0x6C, .llig, .general, false, false, false, false, .sae, .scalar, 4, .e3nf, .avx10v2⟩
  | .vmovdLoad => ⟨1, 2, false, 0x7E, .only128, .vector, false, false, false, false, .none, .tuple1, 4, .e9nf, .avx10v2⟩
  | .vmovdStore => ⟨1, 1, false, 0xD6, .only128, .vector, false, false, false, false, .none, .tuple1, 4, .e9nf, .avx10v2⟩
  | .vmovwLoad => ⟨5, 2, false, 0x6E, .only128, .vector, false, false, false, false, .none, .tuple1, 2, .e9nf, .avx10v2⟩
  | .vmovwStore => ⟨5, 2, false, 0x7E, .only128, .vector, false, false, false, false, .none, .tuple1, 2, .e9nf, .avx10v2⟩

/-- Part 1 of the list of encodings. -/
def Op.all1 : List Op :=
  [.vaddbf16, .vcmpbf16, .vcomisbf16, .vdivbf16, .vfmadd132bf16, .vfmadd213bf16,
   .vfmadd231bf16, .vfmsub132bf16, .vfmsub213bf16, .vfmsub231bf16, .vfnmadd132bf16, .vfnmadd213bf16,
   .vfnmadd231bf16, .vfnmsub132bf16, .vfnmsub213bf16, .vfnmsub231bf16, .vfpclassbf16, .vgetexpbf16,
   .vgetmantbf16, .vmaxbf16, .vminbf16, .vmulbf16, .vrcpbf16, .vreducebf16,
   .vrndscalebf16, .vrsqrtbf16]

/-- Part 2 of the list of encodings. -/
def Op.all2 : List Op :=
  [.vscalefbf16, .vsqrtbf16, .vsubbf16, .vcomxsd, .vcomxsh, .vcomxss,
   .vucomxsd, .vucomxsh, .vucomxss, .vcvt2ph2bf8, .vcvt2ph2bf8s, .vcvt2ph2hf8,
   .vcvt2ph2hf8s, .vcvtph2bf8, .vcvtph2bf8s, .vcvtph2hf8, .vcvtph2hf8s, .vcvt2ps2phx,
   .vcvtbiasph2bf8, .vcvtbiasph2bf8s, .vcvtbiasph2hf8, .vcvtbiasph2hf8s, .vcvthf82ph, .vdphphs,
   .vmpsadbw, .vpdpbssd]

/-- Part 3 of the list of encodings. -/
def Op.all3 : List Op :=
  [.vpdpbssds, .vpdpbsud, .vpdpbsuds, .vpdpbuud, .vpdpbuuds, .vpdpwsud,
   .vpdpwsuds, .vpdpwusd, .vpdpwusds, .vpdpwuud, .vpdpwuuds, .vminmaxbf16,
   .vminmaxpd, .vminmaxph, .vminmaxps, .vminmaxsd, .vminmaxsh, .vminmaxss,
   .vcvtbf162ibs, .vcvtbf162iubs, .vcvttbf162ibs, .vcvttbf162iubs, .vcvttpd2dqs, .vcvttpd2qqs,
   .vcvttpd2udqs, .vcvttpd2uqqs]

/-- Part 4 of the list of encodings. -/
def Op.all4 : List Op :=
  [.vcvtph2ibs, .vcvtph2iubs, .vcvttph2ibs, .vcvttph2iubs, .vcvttps2dqs, .vcvtps2ibs,
   .vcvtps2iubs, .vcvttps2ibs, .vcvttps2iubs, .vcvttps2qqs, .vcvttps2udqs, .vcvttps2uqqs,
   .vcvttsd2sisR32, .vcvttsd2sisR64, .vcvttsd2usisR32, .vcvttsd2usisR64, .vcvttss2sisR32, .vcvttss2sisR64,
   .vcvttss2usisR32, .vcvttss2usisR64, .vmovdLoad, .vmovdStore, .vmovwLoad, .vmovwStore]

/-- Every encoding. -/
def Op.all : List Op := Op.all1 ++ (Op.all2 ++ (Op.all3 ++ Op.all4))

/-- The immediate byte is present exactly in map 0F3A (R104). -/
def Op.hasImm (op : Op) : Bool := op.info.map == 3

/-- The bytes of a full (not broadcast) memory operand (spec/20_memory.md R65). -/
def Op.memBytes (op : Op) (vl : VL) : Nat :=
  match op.info.tuple with
  | .full | .fullMem => vl.bytes
  | .half => vl.bytes / 2
  | .scalar | .tuple1 => op.info.elem

/-- The elements of a full memory operand (spec/20_memory.md R71). -/
def Op.memCount (op : Op) (vl : VL) : Nat := op.memBytes vl / op.info.elem

/-- The scale N of a compressed displacement (spec/20_memory.md R63). -/
def Op.dispScale (op : Op) (vl : VL) (bcst : Bool) : Nat := if bcst then op.info.elem else op.memBytes vl

/-- The `r32` encoding that a form of the scalar converts is read as outside 64-bit mode (R99). -/
def Op.narrow : Op → Op
  | .vcvttsd2sisR64 => .vcvttsd2sisR32
  | .vcvttsd2usisR64 => .vcvttsd2usisR32
  | .vcvttss2sisR64 => .vcvttss2sisR32
  | .vcvttss2usisR64 => .vcvttss2usisR32
  | op => op

/-- The bytes of SIB and displacement (R104). -/
def Disp.length : Disp → Nat
  | .none => 0
  | .d8 _ => 1
  | .d32 _ => 4

/-- The bytes that follow ModRM for a memory form (R104). -/
def Addr.length : Addr → Nat
  | .base _ d => d.length
  | .disp32 _ => 4
  | .sib _ _ _ d => 1 + d.length
  | .sibDisp32 _ _ _ => 5

/-- The bytes that follow ModRM and belong to r/m. -/
def Loc.length : Loc → Nat
  | .mem a | .bcst a => a.length
  | .reg _ | .regEr _ _ | .regSae _ => 0

/-- The length in bytes of an instruction with encoding `op` and r/m operand `rm` (R104). -/
def Op.length (op : Op) (rm : RM) : Nat :=
  rm.pfx.length + 6 + rm.loc.length + (if op.hasImm then 1 else 0)

/-- SAE is in force (R102). -/
def Loc.sae : Loc → Bool
  | .regEr _ _ | .regSae _ => true
  | .reg _ | .mem _ | .bcst _ => false

/-- The operand fields of an instruction; a field that the form does not have is 0. -/
structure Raw where
  /-- `ModRM.reg` with its extension bits -/
  reg  : VReg
  /-- the VVVV operand -/
  vvvv : VReg := 0
  rm   : RM
  aaa  : KReg := 0
  z    : Bool := false
  imm  : BitVec 8 := 0
deriving DecidableEq, Repr

/-- An instruction as its encoding, vector length and operand fields. The length of a form that is not packed is 128. -/
structure Parts where
  op  : Op
  vl  : VL
  raw : Raw
deriving DecidableEq, Repr

def VecOp3.raw (o : VecOp3) (imm : BitVec 8 := 0) : Raw := { reg := o.dest, vvvv := o.src1, rm := o.rm, aaa := o.mask, z := o.zero, imm := imm }
def VecOp2.raw (o : VecOp2) (imm : BitVec 8 := 0) : Raw := { reg := o.dest, rm := o.rm, aaa := o.mask, z := o.zero, imm := imm }
def MaskOp3.raw (o : MaskOp3) (imm : BitVec 8 := 0) : Raw := { reg := o.dest.setWidth 5, vvvv := o.src1, rm := o.rm, aaa := o.mask, imm := imm }
def MaskOp2.raw (o : MaskOp2) (imm : BitVec 8 := 0) : Raw := { reg := o.dest.setWidth 5, rm := o.rm, aaa := o.mask, imm := imm }
def RegRm.raw (o : RegRm) : Raw := { reg := o.reg, rm := o.rm }
def GprRm.raw (o : GprRm) : Raw := { reg := o.dest.setWidth 5, rm := o.rm }

def Raw.vec3 (r : Raw) : VecOp3 := ⟨r.reg, r.vvvv, r.rm, r.aaa, r.z⟩
def Raw.vec2 (r : Raw) : VecOp2 := ⟨r.reg, r.rm, r.aaa, r.z⟩
def Raw.mask3 (r : Raw) : MaskOp3 := ⟨r.reg.setWidth 3, r.vvvv, r.rm, r.aaa⟩
def Raw.mask2 (r : Raw) : MaskOp2 := ⟨r.reg.setWidth 3, r.rm, r.aaa⟩
def Raw.regRm (r : Raw) : RegRm := ⟨r.reg, r.rm⟩
def Raw.gprRm (r : Raw) : GprRm := ⟨r.reg.setWidth 4, r.rm⟩

/-- The encoding, the vector length and the fields of each form (R110). -/
def Instr.parts : Instr → Parts
  | .vaddbf16 vl o => ⟨.vaddbf16, vl, o.raw⟩
  | .vcmpbf16 vl o imm => ⟨.vcmpbf16, vl, o.raw imm⟩
  | .vcomisbf16 o => ⟨.vcomisbf16, .v128, o.raw⟩
  | .vdivbf16 vl o => ⟨.vdivbf16, vl, o.raw⟩
  | .vfmadd132bf16 vl o => ⟨.vfmadd132bf16, vl, o.raw⟩
  | .vfmadd213bf16 vl o => ⟨.vfmadd213bf16, vl, o.raw⟩
  | .vfmadd231bf16 vl o => ⟨.vfmadd231bf16, vl, o.raw⟩
  | .vfmsub132bf16 vl o => ⟨.vfmsub132bf16, vl, o.raw⟩
  | .vfmsub213bf16 vl o => ⟨.vfmsub213bf16, vl, o.raw⟩
  | .vfmsub231bf16 vl o => ⟨.vfmsub231bf16, vl, o.raw⟩
  | .vfnmadd132bf16 vl o => ⟨.vfnmadd132bf16, vl, o.raw⟩
  | .vfnmadd213bf16 vl o => ⟨.vfnmadd213bf16, vl, o.raw⟩
  | .vfnmadd231bf16 vl o => ⟨.vfnmadd231bf16, vl, o.raw⟩
  | .vfnmsub132bf16 vl o => ⟨.vfnmsub132bf16, vl, o.raw⟩
  | .vfnmsub213bf16 vl o => ⟨.vfnmsub213bf16, vl, o.raw⟩
  | .vfnmsub231bf16 vl o => ⟨.vfnmsub231bf16, vl, o.raw⟩
  | .vfpclassbf16 vl o imm => ⟨.vfpclassbf16, vl, o.raw imm⟩
  | .vgetexpbf16 vl o => ⟨.vgetexpbf16, vl, o.raw⟩
  | .vgetmantbf16 vl o imm => ⟨.vgetmantbf16, vl, o.raw imm⟩
  | .vmaxbf16 vl o => ⟨.vmaxbf16, vl, o.raw⟩
  | .vminbf16 vl o => ⟨.vminbf16, vl, o.raw⟩
  | .vmulbf16 vl o => ⟨.vmulbf16, vl, o.raw⟩
  | .vrcpbf16 vl o => ⟨.vrcpbf16, vl, o.raw⟩
  | .vreducebf16 vl o imm => ⟨.vreducebf16, vl, o.raw imm⟩
  | .vrndscalebf16 vl o imm => ⟨.vrndscalebf16, vl, o.raw imm⟩
  | .vrsqrtbf16 vl o => ⟨.vrsqrtbf16, vl, o.raw⟩
  | .vscalefbf16 vl o => ⟨.vscalefbf16, vl, o.raw⟩
  | .vsqrtbf16 vl o => ⟨.vsqrtbf16, vl, o.raw⟩
  | .vsubbf16 vl o => ⟨.vsubbf16, vl, o.raw⟩
  | .vcomxsd o => ⟨.vcomxsd, .v128, o.raw⟩
  | .vcomxsh o => ⟨.vcomxsh, .v128, o.raw⟩
  | .vcomxss o => ⟨.vcomxss, .v128, o.raw⟩
  | .vucomxsd o => ⟨.vucomxsd, .v128, o.raw⟩
  | .vucomxsh o => ⟨.vucomxsh, .v128, o.raw⟩
  | .vucomxss o => ⟨.vucomxss, .v128, o.raw⟩
  | .vcvt2ph2bf8 vl o => ⟨.vcvt2ph2bf8, vl, o.raw⟩
  | .vcvt2ph2bf8s vl o => ⟨.vcvt2ph2bf8s, vl, o.raw⟩
  | .vcvt2ph2hf8 vl o => ⟨.vcvt2ph2hf8, vl, o.raw⟩
  | .vcvt2ph2hf8s vl o => ⟨.vcvt2ph2hf8s, vl, o.raw⟩
  | .vcvtph2bf8 vl o => ⟨.vcvtph2bf8, vl, o.raw⟩
  | .vcvtph2bf8s vl o => ⟨.vcvtph2bf8s, vl, o.raw⟩
  | .vcvtph2hf8 vl o => ⟨.vcvtph2hf8, vl, o.raw⟩
  | .vcvtph2hf8s vl o => ⟨.vcvtph2hf8s, vl, o.raw⟩
  | .vcvt2ps2phx vl o => ⟨.vcvt2ps2phx, vl, o.raw⟩
  | .vcvtbiasph2bf8 vl o => ⟨.vcvtbiasph2bf8, vl, o.raw⟩
  | .vcvtbiasph2bf8s vl o => ⟨.vcvtbiasph2bf8s, vl, o.raw⟩
  | .vcvtbiasph2hf8 vl o => ⟨.vcvtbiasph2hf8, vl, o.raw⟩
  | .vcvtbiasph2hf8s vl o => ⟨.vcvtbiasph2hf8s, vl, o.raw⟩
  | .vcvthf82ph vl o => ⟨.vcvthf82ph, vl, o.raw⟩
  | .vdphphs vl o => ⟨.vdphphs, vl, o.raw⟩
  | .vmpsadbw vl o imm => ⟨.vmpsadbw, vl, o.raw imm⟩
  | .vpdpbssd vl o => ⟨.vpdpbssd, vl, o.raw⟩
  | .vpdpbssds vl o => ⟨.vpdpbssds, vl, o.raw⟩
  | .vpdpbsud vl o => ⟨.vpdpbsud, vl, o.raw⟩
  | .vpdpbsuds vl o => ⟨.vpdpbsuds, vl, o.raw⟩
  | .vpdpbuud vl o => ⟨.vpdpbuud, vl, o.raw⟩
  | .vpdpbuuds vl o => ⟨.vpdpbuuds, vl, o.raw⟩
  | .vpdpwsud vl o => ⟨.vpdpwsud, vl, o.raw⟩
  | .vpdpwsuds vl o => ⟨.vpdpwsuds, vl, o.raw⟩
  | .vpdpwusd vl o => ⟨.vpdpwusd, vl, o.raw⟩
  | .vpdpwusds vl o => ⟨.vpdpwusds, vl, o.raw⟩
  | .vpdpwuud vl o => ⟨.vpdpwuud, vl, o.raw⟩
  | .vpdpwuuds vl o => ⟨.vpdpwuuds, vl, o.raw⟩
  | .vminmaxbf16 vl o imm => ⟨.vminmaxbf16, vl, o.raw imm⟩
  | .vminmaxpd vl o imm => ⟨.vminmaxpd, vl, o.raw imm⟩
  | .vminmaxph vl o imm => ⟨.vminmaxph, vl, o.raw imm⟩
  | .vminmaxps vl o imm => ⟨.vminmaxps, vl, o.raw imm⟩
  | .vminmaxsd o imm => ⟨.vminmaxsd, .v128, o.raw imm⟩
  | .vminmaxsh o imm => ⟨.vminmaxsh, .v128, o.raw imm⟩
  | .vminmaxss o imm => ⟨.vminmaxss, .v128, o.raw imm⟩
  | .vcvtbf162ibs vl o => ⟨.vcvtbf162ibs, vl, o.raw⟩
  | .vcvtbf162iubs vl o => ⟨.vcvtbf162iubs, vl, o.raw⟩
  | .vcvttbf162ibs vl o => ⟨.vcvttbf162ibs, vl, o.raw⟩
  | .vcvttbf162iubs vl o => ⟨.vcvttbf162iubs, vl, o.raw⟩
  | .vcvttpd2dqs vl o => ⟨.vcvttpd2dqs, vl, o.raw⟩
  | .vcvttpd2qqs vl o => ⟨.vcvttpd2qqs, vl, o.raw⟩
  | .vcvttpd2udqs vl o => ⟨.vcvttpd2udqs, vl, o.raw⟩
  | .vcvttpd2uqqs vl o => ⟨.vcvttpd2uqqs, vl, o.raw⟩
  | .vcvtph2ibs vl o => ⟨.vcvtph2ibs, vl, o.raw⟩
  | .vcvtph2iubs vl o => ⟨.vcvtph2iubs, vl, o.raw⟩
  | .vcvttph2ibs vl o => ⟨.vcvttph2ibs, vl, o.raw⟩
  | .vcvttph2iubs vl o => ⟨.vcvttph2iubs, vl, o.raw⟩
  | .vcvttps2dqs vl o => ⟨.vcvttps2dqs, vl, o.raw⟩
  | .vcvtps2ibs vl o => ⟨.vcvtps2ibs, vl, o.raw⟩
  | .vcvtps2iubs vl o => ⟨.vcvtps2iubs, vl, o.raw⟩
  | .vcvttps2ibs vl o => ⟨.vcvttps2ibs, vl, o.raw⟩
  | .vcvttps2iubs vl o => ⟨.vcvttps2iubs, vl, o.raw⟩
  | .vcvttps2qqs vl o => ⟨.vcvttps2qqs, vl, o.raw⟩
  | .vcvttps2udqs vl o => ⟨.vcvttps2udqs, vl, o.raw⟩
  | .vcvttps2uqqs vl o => ⟨.vcvttps2uqqs, vl, o.raw⟩
  | .vcvttsd2sisR32 o => ⟨.vcvttsd2sisR32, .v128, o.raw⟩
  | .vcvttsd2sisR64 o => ⟨.vcvttsd2sisR64, .v128, o.raw⟩
  | .vcvttsd2usisR32 o => ⟨.vcvttsd2usisR32, .v128, o.raw⟩
  | .vcvttsd2usisR64 o => ⟨.vcvttsd2usisR64, .v128, o.raw⟩
  | .vcvttss2sisR32 o => ⟨.vcvttss2sisR32, .v128, o.raw⟩
  | .vcvttss2sisR64 o => ⟨.vcvttss2sisR64, .v128, o.raw⟩
  | .vcvttss2usisR32 o => ⟨.vcvttss2usisR32, .v128, o.raw⟩
  | .vcvttss2usisR64 o => ⟨.vcvttss2usisR64, .v128, o.raw⟩
  | .vmovdLoad o => ⟨.vmovdLoad, .v128, o.raw⟩
  | .vmovdStore o => ⟨.vmovdStore, .v128, o.raw⟩
  | .vmovwLoad o => ⟨.vmovwLoad, .v128, o.raw⟩
  | .vmovwStore o => ⟨.vmovwStore, .v128, o.raw⟩

/-- The form that an encoding, a vector length and operand fields stand for; the length is ignored where the form is not
packed. -/
def Parts.instr (p : Parts) : Instr :=
  match p.op with
  | .vaddbf16 => .vaddbf16 p.vl p.raw.vec3
  | .vcmpbf16 => .vcmpbf16 p.vl p.raw.mask3 p.raw.imm
  | .vcomisbf16 => .vcomisbf16 p.raw.regRm
  | .vdivbf16 => .vdivbf16 p.vl p.raw.vec3
  | .vfmadd132bf16 => .vfmadd132bf16 p.vl p.raw.vec3
  | .vfmadd213bf16 => .vfmadd213bf16 p.vl p.raw.vec3
  | .vfmadd231bf16 => .vfmadd231bf16 p.vl p.raw.vec3
  | .vfmsub132bf16 => .vfmsub132bf16 p.vl p.raw.vec3
  | .vfmsub213bf16 => .vfmsub213bf16 p.vl p.raw.vec3
  | .vfmsub231bf16 => .vfmsub231bf16 p.vl p.raw.vec3
  | .vfnmadd132bf16 => .vfnmadd132bf16 p.vl p.raw.vec3
  | .vfnmadd213bf16 => .vfnmadd213bf16 p.vl p.raw.vec3
  | .vfnmadd231bf16 => .vfnmadd231bf16 p.vl p.raw.vec3
  | .vfnmsub132bf16 => .vfnmsub132bf16 p.vl p.raw.vec3
  | .vfnmsub213bf16 => .vfnmsub213bf16 p.vl p.raw.vec3
  | .vfnmsub231bf16 => .vfnmsub231bf16 p.vl p.raw.vec3
  | .vfpclassbf16 => .vfpclassbf16 p.vl p.raw.mask2 p.raw.imm
  | .vgetexpbf16 => .vgetexpbf16 p.vl p.raw.vec2
  | .vgetmantbf16 => .vgetmantbf16 p.vl p.raw.vec2 p.raw.imm
  | .vmaxbf16 => .vmaxbf16 p.vl p.raw.vec3
  | .vminbf16 => .vminbf16 p.vl p.raw.vec3
  | .vmulbf16 => .vmulbf16 p.vl p.raw.vec3
  | .vrcpbf16 => .vrcpbf16 p.vl p.raw.vec2
  | .vreducebf16 => .vreducebf16 p.vl p.raw.vec2 p.raw.imm
  | .vrndscalebf16 => .vrndscalebf16 p.vl p.raw.vec2 p.raw.imm
  | .vrsqrtbf16 => .vrsqrtbf16 p.vl p.raw.vec2
  | .vscalefbf16 => .vscalefbf16 p.vl p.raw.vec3
  | .vsqrtbf16 => .vsqrtbf16 p.vl p.raw.vec2
  | .vsubbf16 => .vsubbf16 p.vl p.raw.vec3
  | .vcomxsd => .vcomxsd p.raw.regRm
  | .vcomxsh => .vcomxsh p.raw.regRm
  | .vcomxss => .vcomxss p.raw.regRm
  | .vucomxsd => .vucomxsd p.raw.regRm
  | .vucomxsh => .vucomxsh p.raw.regRm
  | .vucomxss => .vucomxss p.raw.regRm
  | .vcvt2ph2bf8 => .vcvt2ph2bf8 p.vl p.raw.vec3
  | .vcvt2ph2bf8s => .vcvt2ph2bf8s p.vl p.raw.vec3
  | .vcvt2ph2hf8 => .vcvt2ph2hf8 p.vl p.raw.vec3
  | .vcvt2ph2hf8s => .vcvt2ph2hf8s p.vl p.raw.vec3
  | .vcvtph2bf8 => .vcvtph2bf8 p.vl p.raw.vec2
  | .vcvtph2bf8s => .vcvtph2bf8s p.vl p.raw.vec2
  | .vcvtph2hf8 => .vcvtph2hf8 p.vl p.raw.vec2
  | .vcvtph2hf8s => .vcvtph2hf8s p.vl p.raw.vec2
  | .vcvt2ps2phx => .vcvt2ps2phx p.vl p.raw.vec3
  | .vcvtbiasph2bf8 => .vcvtbiasph2bf8 p.vl p.raw.vec3
  | .vcvtbiasph2bf8s => .vcvtbiasph2bf8s p.vl p.raw.vec3
  | .vcvtbiasph2hf8 => .vcvtbiasph2hf8 p.vl p.raw.vec3
  | .vcvtbiasph2hf8s => .vcvtbiasph2hf8s p.vl p.raw.vec3
  | .vcvthf82ph => .vcvthf82ph p.vl p.raw.vec2
  | .vdphphs => .vdphphs p.vl p.raw.vec3
  | .vmpsadbw => .vmpsadbw p.vl p.raw.vec3 p.raw.imm
  | .vpdpbssd => .vpdpbssd p.vl p.raw.vec3
  | .vpdpbssds => .vpdpbssds p.vl p.raw.vec3
  | .vpdpbsud => .vpdpbsud p.vl p.raw.vec3
  | .vpdpbsuds => .vpdpbsuds p.vl p.raw.vec3
  | .vpdpbuud => .vpdpbuud p.vl p.raw.vec3
  | .vpdpbuuds => .vpdpbuuds p.vl p.raw.vec3
  | .vpdpwsud => .vpdpwsud p.vl p.raw.vec3
  | .vpdpwsuds => .vpdpwsuds p.vl p.raw.vec3
  | .vpdpwusd => .vpdpwusd p.vl p.raw.vec3
  | .vpdpwusds => .vpdpwusds p.vl p.raw.vec3
  | .vpdpwuud => .vpdpwuud p.vl p.raw.vec3
  | .vpdpwuuds => .vpdpwuuds p.vl p.raw.vec3
  | .vminmaxbf16 => .vminmaxbf16 p.vl p.raw.vec3 p.raw.imm
  | .vminmaxpd => .vminmaxpd p.vl p.raw.vec3 p.raw.imm
  | .vminmaxph => .vminmaxph p.vl p.raw.vec3 p.raw.imm
  | .vminmaxps => .vminmaxps p.vl p.raw.vec3 p.raw.imm
  | .vminmaxsd => .vminmaxsd p.raw.vec3 p.raw.imm
  | .vminmaxsh => .vminmaxsh p.raw.vec3 p.raw.imm
  | .vminmaxss => .vminmaxss p.raw.vec3 p.raw.imm
  | .vcvtbf162ibs => .vcvtbf162ibs p.vl p.raw.vec2
  | .vcvtbf162iubs => .vcvtbf162iubs p.vl p.raw.vec2
  | .vcvttbf162ibs => .vcvttbf162ibs p.vl p.raw.vec2
  | .vcvttbf162iubs => .vcvttbf162iubs p.vl p.raw.vec2
  | .vcvttpd2dqs => .vcvttpd2dqs p.vl p.raw.vec2
  | .vcvttpd2qqs => .vcvttpd2qqs p.vl p.raw.vec2
  | .vcvttpd2udqs => .vcvttpd2udqs p.vl p.raw.vec2
  | .vcvttpd2uqqs => .vcvttpd2uqqs p.vl p.raw.vec2
  | .vcvtph2ibs => .vcvtph2ibs p.vl p.raw.vec2
  | .vcvtph2iubs => .vcvtph2iubs p.vl p.raw.vec2
  | .vcvttph2ibs => .vcvttph2ibs p.vl p.raw.vec2
  | .vcvttph2iubs => .vcvttph2iubs p.vl p.raw.vec2
  | .vcvttps2dqs => .vcvttps2dqs p.vl p.raw.vec2
  | .vcvtps2ibs => .vcvtps2ibs p.vl p.raw.vec2
  | .vcvtps2iubs => .vcvtps2iubs p.vl p.raw.vec2
  | .vcvttps2ibs => .vcvttps2ibs p.vl p.raw.vec2
  | .vcvttps2iubs => .vcvttps2iubs p.vl p.raw.vec2
  | .vcvttps2qqs => .vcvttps2qqs p.vl p.raw.vec2
  | .vcvttps2udqs => .vcvttps2udqs p.vl p.raw.vec2
  | .vcvttps2uqqs => .vcvttps2uqqs p.vl p.raw.vec2
  | .vcvttsd2sisR32 => .vcvttsd2sisR32 p.raw.gprRm
  | .vcvttsd2sisR64 => .vcvttsd2sisR64 p.raw.gprRm
  | .vcvttsd2usisR32 => .vcvttsd2usisR32 p.raw.gprRm
  | .vcvttsd2usisR64 => .vcvttsd2usisR64 p.raw.gprRm
  | .vcvttss2sisR32 => .vcvttss2sisR32 p.raw.gprRm
  | .vcvttss2sisR64 => .vcvttss2sisR64 p.raw.gprRm
  | .vcvttss2usisR32 => .vcvttss2usisR32 p.raw.gprRm
  | .vcvttss2usisR64 => .vcvttss2usisR64 p.raw.gprRm
  | .vmovdLoad => .vmovdLoad p.raw.regRm
  | .vmovdStore => .vmovdStore p.raw.regRm
  | .vmovwLoad => .vmovwLoad p.raw.regRm
  | .vmovwStore => .vmovwStore p.raw.regRm

/-- The encoding of a form. -/
def Instr.op (i : Instr) : Op := i.parts.op

/-- The length in bytes of an instruction (R104). -/
def Instr.length (i : Instr) : Nat := i.parts.op.length i.parts.raw.rm

end Sys2Proof
end

