-- ==== Sys2Proof/WellFormed.lean ====
section
/-! DEFINITION. Well-formed instructions: those the encoder writes and the decoder of 64-bit mode reads back. A term that
fails a check stands for no encoding, or for one that raises #UD (spec/30_encoding.md R95, R98, R101, R102, R104). -/

namespace Sys2Proof

/-- A displacement other than `none`. -/
def Disp.present : Disp → Bool
  | .none => false
  | .d8 _ | .d32 _ => true

/-- The memory form that its own bytes decode to: base number 4 mod 8 needs a SIB byte, and base number 5 mod 8 needs a
displacement, because ModRM and SIB use those codes otherwise (R95). -/
def Addr.canonical : Addr → Bool
  | .base b d => b.setWidth 3 != 4#3 && (d.present || b.setWidth 3 != 5#3)
  | .disp32 _ => true
  | .sib _ _ b d => d.present || b.setWidth 3 != 5#3
  | .sibDisp32 _ _ _ => true

/-- The memory form, if any, is canonical. -/
def Loc.addrOk : Loc → Bool
  | .mem a | .bcst a => a.canonical
  | .reg _ | .regEr _ _ | .regSae _ => true

/-- `EVEX.b` is used as the form allows: broadcast, `{er}` and `{sae}` only where R110 prints them, and on packed forms
`{er}` and `{sae}` at 512 bits only (R102). -/
def Parts.locOk (p : Parts) : Bool :=
  match p.raw.rm.loc with
  | .reg _ | .mem _ => true
  | .bcst _ => p.op.info.bcst
  | .regEr _ _ => p.op.info.regB == .er && p.vl == .v512
  | .regSae _ => p.op.info.regB == .sae && (p.op.info.len != .packed || p.vl == .v512)

/-- Zeroing needs a write mask (R101). -/
def Parts.zeroOk (p : Parts) : Bool := !p.raw.z || p.raw.aaa != 0#3

/-- At most 15 bytes (R104). -/
def Parts.lengthOk (p : Parts) : Bool := decide (p.op.length p.raw.rm ≤ 15)

/-- All checks. -/
def Parts.wf (p : Parts) : Bool := p.lengthOk && p.zeroOk && p.locOk && p.raw.rm.loc.addrOk

/-- The instruction has an encoding of its own. -/
def Instr.wf (i : Instr) : Bool := i.parts.wf

end Sys2Proof
end

