-- ==== Sys2Proof/Decode.lean ====
section
/-! DEFINITION. The decoder, total on any bytes, and the encoder (spec/30_encoding.md R90 to R109). -/

namespace Sys2Proof

/-- Bytes the model gives no meaning to. -/
inductive Reject where
  /-- not an encoding of R110: another instruction, or undefined (R118). -/
  | foreign
  /-- the instruction does not end within the bytes given, of which at most 15 are read
  (spec/93_implementation_defined.md T16). -/
  | overlong
  /-- 16-bit addressing, 67H in a 32-bit mode (spec/93_implementation_defined.md T17). -/
  | address16
deriving DecidableEq, Repr

/-- What bytes decode to. `invalid` is an encoding of R110 that raises #UD by R108 (a) or (e) to (j). -/
inductive Decoded where
  | instr (i : Instr) (rest : List Byte)
  | invalid
  | rejected (r : Reject)
deriving DecidableEq, Repr

/-- As `Decoded`, before the fields are made an instruction. -/
inductive DecodedParts where
  | parts (p : Parts) (rest : List Byte)
  | invalid
  | rejected (r : Reject)
deriving DecidableEq, Repr

/-! ## The fields of the prefix -/

/-- The fields of P0, P1 and P2 (R92 to R94); the register extension bits are the logical ones (stored inverted). -/
structure Evex where
  r    : Bool
  x    : Bool
  b    : Bool
  r'   : Bool
  /-- P0 bit 3, which must be 0 -/
  p0b3 : Bool
  mmm  : BitVec 3
  w    : Bool
  vvvv : BitVec 4
  /-- P1 bit 2, which must be 1 -/
  p1b2 : Bool
  pp   : BitVec 2
  z    : Bool
  ll   : BitVec 2
  bb   : Bool
  v'   : Bool
  aaa  : BitVec 3
deriving DecidableEq, Repr

/-- The fields of the three prefix bytes (R92, R93, R94). -/
def Evex.ofBytes (p0 p1 p2 : Byte) : Evex where
  r    := !p0.getLsbD 7
  x    := !p0.getLsbD 6
  b    := !p0.getLsbD 5
  r'   := !p0.getLsbD 4
  p0b3 := p0.getLsbD 3
  mmm  := p0.extractLsb' 0 3
  w    := p1.getLsbD 7
  vvvv := ~~~(p1.extractLsb' 3 4)
  p1b2 := p1.getLsbD 2
  pp   := p1.extractLsb' 0 2
  z    := p2.getLsbD 7
  ll   := p2.extractLsb' 5 2
  bb   := p2.getLsbD 4
  v'   := !p2.getLsbD 3
  aaa  := p2.extractLsb' 0 3

/-- A one-bit field. -/
def bit (b : Bool) : BitVec 1 := BitVec.ofBool b

/-- Byte P0 (R92). -/
def Evex.p0 (e : Evex) : Byte := bit (!e.r) ++ bit (!e.x) ++ bit (!e.b) ++ bit (!e.r') ++ bit e.p0b3 ++ e.mmm

/-- Byte P1 (R93). -/
def Evex.p1 (e : Evex) : Byte := bit e.w ++ ~~~e.vvvv ++ bit e.p1b2 ++ e.pp

/-- Byte P2 (R94). -/
def Evex.p2 (e : Evex) : Byte := bit e.z ++ e.ll ++ bit e.bb ++ bit (!e.v') ++ e.aaa

/-! ## Legacy bytes before 62H -/

/-- The byte of a permitted legacy byte (R91). -/
def LegacyPrefix.byte : LegacyPrefix → Byte
  | .seg .es => 0x26
  | .seg .cs => 0x2E
  | .seg .ss => 0x36
  | .seg .ds => 0x3E
  | .seg .fs => 0x64
  | .seg .gs => 0x65
  | .addr32 => 0x67

/-- The permitted legacy bytes (R91). -/
def legacyPrefix? (b : Byte) : Option LegacyPrefix :=
  [LegacyPrefix.seg .es, .seg .cs, .seg .ss, .seg .ds, .seg .fs, .seg .gs, .addr32].find? (fun p => p.byte == b)

/-- LOCK, F2, F3, 66, and in 64-bit mode REX: #UD before an EVEX prefix (R91, R108 e). -/
def forbiddenLead (m : Mode) (b : Byte) : Bool :=
  b == 0xF0 || b == 0xF2 || b == 0xF3 || b == 0x66 || (m == .mode64 && b.extractLsb' 4 4 == 4#4)

/-- The bytes before 62H. -/
structure Lead where
  pfx       : List LegacyPrefix
  /-- a byte of `forbiddenLead` is among them -/
  forbidden : Bool
  rest      : List Byte
deriving DecidableEq, Repr

/-- Reads the bytes before 62H. -/
def scanLead (m : Mode) : List Byte → Lead
  | [] => ⟨[], false, []⟩
  | b :: bs =>
    match legacyPrefix? b with
    | some p => let l := scanLead m bs; ⟨p :: l.pfx, l.forbidden, l.rest⟩
    | none => if forbiddenLead m b then { scanLead m bs with forbidden := true } else ⟨[], false, b :: bs⟩

/-! ## ModRM, SIB and displacement -/

/-- Four displacement bytes, least significant first (R90). -/
def disp32Of (b0 b1 b2 b3 : Byte) : BitVec 32 := b3 ++ b2 ++ b1 ++ b0

/-- The bytes of a 32-bit displacement, least significant first (R90). -/
def disp32Bytes (d : BitVec 32) : List Byte :=
  [d.extractLsb' 0 8, d.extractLsb' 8 8, d.extractLsb' 16 8, d.extractLsb' 24 8]

/-- Reads a 32-bit displacement. -/
def readDisp32 : List Byte → Option (BitVec 32 × List Byte)
  | b0 :: b1 :: b2 :: b3 :: rest => some (disp32Of b0 b1 b2 b3, rest)
  | _ => none

/-- Reads the displacement that `mod` asks for (R95). -/
def readDisp (mod : BitVec 2) (bs : List Byte) : Option (Disp × List Byte) :=
  if mod == 0 then some (.none, bs)
  else if mod == 1 then
    match bs with
    | d :: rest => some (.d8 d, rest)
    | [] => none
  else (readDisp32 bs).map fun (d, rest) => (.d32 d, rest)

/-- Reads what follows ModRM for a memory operand; `x` and `b` are EVEX.X and EVEX.B (R95, spec/20_memory.md R62). -/
def readAddr (x b : Bool) (mod : BitVec 2) (rm : BitVec 3) (bs : List Byte) : Option (Addr × List Byte) :=
  if rm == 4 then
    match bs with
    | [] => none
    | sib :: rest =>
      let scale := sib.extractLsb' 6 2
      let index : GReg := bit x ++ sib.extractLsb' 3 3
      let base : GReg := bit b ++ sib.extractLsb' 0 3
      if mod == 0 && sib.extractLsb' 0 3 == 5#3 then
        (readDisp32 rest).map fun (d, rest) => (.sibDisp32 scale index d, rest)
      else (readDisp mod rest).map fun (d, rest) => (.sib scale index base d, rest)
  else if mod == 0 && rm == 5 then (readDisp32 bs).map fun (d, rest) => (.disp32 d, rest)
  else (readDisp mod bs).map fun (d, rest) => (.base (bit b ++ rm) d, rest)

/-! ## The decoder -/

/-- The encoding with this map, pp, W and opcode (R110, R117). -/
def Op.find (map : BitVec 3) (pp : BitVec 2) (w : Bool) (opcode : Byte) : Option Op :=
  Op.all.find? fun op => op.info.map == map && op.info.pp == pp && op.info.w == w && op.info.opcode == opcode

/-- The encoding an EVEX prefix and opcode select. Outside 64-bit mode `W` of the scalar converts is ignored (R99). -/
def Op.select (m : Mode) (e : Evex) (opcode : Byte) : Option Op :=
  (Op.find e.mmm e.pp e.w opcode).map fun op => if m == .mode64 then op else op.narrow

/-- The vector length `L'L` gives, `none` for #UD (R98). -/
def LenKind.length (k : LenKind) (ll : BitVec 2) : Option VL :=
  match k with
  | .llig => some .v128
  | .only128 => if ll == 0 then some .v128 else none
  | .packed => if ll == 0 then some .v128 else if ll == 1 then some .v256 else if ll == 2 then some .v512 else none

/-- The register form of r/m with its vector length, `none` for #UD (R98, R102). -/
def Op.regLoc (op : Op) (r : VReg) (bb : Bool) (ll : BitVec 2) : Option (Loc × VL) :=
  if bb then
    match op.info.regB with
    | .none => none
    | .er => some (.regEr r ll, .v512)
    | .sae => some (.regSae r, if op.info.len == .packed then .v512 else .v128)
  else (op.info.len.length ll).map fun vl => (.reg r, vl)

/-- The memory form of r/m with its vector length, `none` for #UD (R98, R102). -/
def Op.memLoc (op : Op) (a : Addr) (bb : Bool) (ll : BitVec 2) : Option (Loc × VL) :=
  if bb && !op.info.bcst then none
  else (op.info.len.length ll).map fun vl => (if bb then .bcst a else .mem a, vl)

/-- The number in `ModRM.reg`, `none` for #UD. Outside 64-bit mode EVEX.R' does not extend a vector register number, and
EVEX.R is 0 (R96). -/
def DestKind.number (d : DestKind) (m : Mode) (e : Evex) (reg : BitVec 3) : Option VReg :=
  match d with
  | .vector => some (bit (e.r' && m == .mode64) ++ bit e.r ++ reg)
  | .opmask => if e.r || e.r' then none else some (0#2 ++ reg)
  | .general => if e.r' then none else some (0#1 ++ bit e.r ++ reg)

/-- The VVVV operand, `none` for #UD on a form without one (R96, R103). -/
def Op.vvvvNumber (op : Op) (m : Mode) (e : Evex) : Option VReg :=
  if op.info.usesV then
    some (if m == .mode64 then bit e.v' ++ e.vvvv else (e.vvvv.setWidth 3).setWidth 5)
  else if e.vvvv == 0 && !e.v' then some 0 else none

/-- The write mask fields are allowed (R101). -/
def Op.maskOk (op : Op) (e : Evex) : Bool :=
  if op.info.masked then !e.z || (op.info.zeroing && e.aaa != 0) else e.aaa == 0 && !e.z

/-- The fields of an encoding of R110 whose bytes are all there, `none` for #UD (R108 f to j). -/
def Op.fields (op : Op) (m : Mode) (e : Evex) (reg : BitVec 3) (loc : Option (Loc × VL)) (pfx : List LegacyPrefix)
    (imm : Byte) : Option Parts :=
  if e.p0b3 || !e.p1b2 || !op.maskOk e then none
  else
    match op.info.dest.number m e reg, op.vvvvNumber m e, loc with
    | some d, some v, some (l, vl) =>
      some ⟨op, vl, { reg := d, vvvv := v, rm := ⟨pfx, l⟩, aaa := e.aaa, z := e.z, imm := imm }⟩
    | _, _, _ => none

/-- Reads the immediate byte, if the form has one; 0 stands for none. -/
def Op.readImm (op : Op) (bs : List Byte) : Option (Byte × List Byte) :=
  if op.hasImm then
    match bs with
    | [] => none
    | i :: rest => some (i, rest)
  else some (0, bs)

/-- The parts, or #UD where the fields are refused. -/
def finishDecode (forbidden : Bool) (p : Option Parts) (rest : List Byte) : DecodedParts :=
  if forbidden then .invalid
  else
    match p with
    | some p => .parts p rest
    | none => .invalid

/-- EVEX encodings are #UD in real and virtual-8086 mode, whatever their operands are (R108 a, R109). -/
def Mode.refusesEvex : Mode → Bool
  | .real | .virtual8086 => true
  | .protectedMode | .compatibility | .mode64 => false

/-- A memory form that R108 (e) to (j) make #UD; the address has no part in it. -/
def Op.memUndefined (op : Op) (m : Mode) (lead : Lead) (e : Evex) (reg : BitVec 3) : Bool :=
  lead.forbidden || (op.fields m e reg (op.memLoc (.disp32 0) e.bb e.ll) lead.pfx 0).isNone

/-- Decodes what follows the prefix and the opcode: ModRM, SIB, displacement, immediate. In real and virtual-8086 mode the
encoding is #UD before they are read; in the 32-bit modes a memory form under 67H that is not #UD by its prefixes is
rejected (log entry 17). -/
def decodeOperands (m : Mode) (lead : Lead) (op : Op) (e : Evex) (modrm : Byte) (bs : List Byte) : DecodedParts :=
  let mod := modrm.extractLsb' 6 2
  let reg := modrm.extractLsb' 3 3
  let rm := modrm.extractLsb' 0 3
  let b := e.b && m == .mode64
  if m.refusesEvex then .invalid
  else if mod == 3 then
    match op.readImm bs with
    | none => .rejected .overlong
    | some (imm, rest) =>
      finishDecode lead.forbidden (op.fields m e reg (op.regLoc (bit e.x ++ bit b ++ rm) e.bb e.ll) lead.pfx imm) rest
  else if m != .mode64 && lead.pfx.contains .addr32 then
    if op.memUndefined m lead e reg then .invalid else .rejected .address16
  else
    match readAddr e.x b mod rm bs with
    | none => .rejected .overlong
    | some (a, bs') =>
      match op.readImm bs' with
      | none => .rejected .overlong
      | some (imm, rest) =>
        finishDecode lead.forbidden (op.fields m e reg (op.memLoc a e.bb e.ll) lead.pfx imm) rest

/-- Decodes from 62H on. Outside 64-bit mode 62H followed by a byte whose bits 7:6 are not 11 is the BOUND instruction
(R96). -/
def decodeEvex (m : Mode) (lead : Lead) : DecodedParts :=
  match lead.rest with
  | [] => .rejected .overlong
  | esc :: bs =>
    if esc != 0x62 then .rejected .foreign
    else
      match bs with
      | p0 :: p1 :: p2 :: opcode :: modrm :: tail =>
        let e := Evex.ofBytes p0 p1 p2
        if m != .mode64 && (e.r || e.x) then .rejected .foreign
        else
          match Op.select m e opcode with
          | none => .rejected .foreign
          | some op => decodeOperands m lead op e modrm tail
      | _ => .rejected .overlong

/-- Decodes the first instruction of the bytes, of which at most 15 are read, to its parts; the rest of the bytes follows. -/
def decodeParts (m : Mode) (bs : List Byte) : DecodedParts :=
  match decodeEvex m (scanLead m (bs.take 15)) with
  | .parts p rest => .parts p (rest ++ bs.drop 15)
  | .invalid => .invalid
  | .rejected r => .rejected r

/-- Decodes the first instruction of the bytes. -/
def decode (m : Mode) (bs : List Byte) : Decoded :=
  match decodeParts m bs with
  | .parts p rest => .instr p.instr rest
  | .invalid => .invalid
  | .rejected r => .rejected r

/-! ## The encoder -/

/-- The code of a vector length (R98). -/
def VL.code : VL → BitVec 2
  | .v128 => 0
  | .v256 => 1
  | .v512 => 2

/-- The `b` bit (R102). -/
def Loc.evexB : Loc → Bool
  | .reg _ | .mem _ => false
  | .regEr _ _ | .regSae _ | .bcst _ => true

/-- `L'L`: the length, the rounding mode under `{er}`, 00 where it is ignored (R98, R102). -/
def Parts.ll (p : Parts) : BitVec 2 :=
  match p.raw.rm.loc with
  | .regEr _ rc => rc
  | .reg _ | .regSae _ | .mem _ | .bcst _ => if p.op.info.len == .packed then p.vl.code else 0

/-- EVEX.X (R96): bit 4 of an r/m register, bit 3 of an index. -/
def Loc.evexX : Loc → Bool
  | .reg r | .regEr r _ | .regSae r => r.getLsbD 4
  | .mem a | .bcst a =>
    match a with
    | .base _ _ | .disp32 _ => false
    | .sib _ i _ _ | .sibDisp32 _ i _ => i.getLsbD 3

/-- EVEX.B (R96): bit 3 of an r/m register or of a base. -/
def Loc.evexBase : Loc → Bool
  | .reg r | .regEr r _ | .regSae r => r.getLsbD 3
  | .mem a | .bcst a =>
    match a with
    | .base b _ | .sib _ _ b _ => b.getLsbD 3
    | .disp32 _ | .sibDisp32 _ _ _ => false

/-- The prefix fields of an instruction. -/
def Parts.evex (p : Parts) : Evex where
  r    := p.raw.reg.getLsbD 3
  x    := p.raw.rm.loc.evexX
  b    := p.raw.rm.loc.evexBase
  r'   := p.raw.reg.getLsbD 4
  p0b3 := false
  mmm  := p.op.info.map
  w    := p.op.info.w
  vvvv := p.raw.vvvv.setWidth 4
  p1b2 := true
  pp   := p.op.info.pp
  z    := p.raw.z
  ll   := p.ll
  bb   := p.raw.rm.loc.evexB
  v'   := p.raw.vvvv.getLsbD 4
  aaa  := p.raw.aaa

/-- `mod` for a displacement. -/
def Disp.mod : Disp → BitVec 2
  | .none => 0
  | .d8 _ => 1
  | .d32 _ => 2

/-- The bytes of a displacement. -/
def Disp.bytes : Disp → List Byte
  | .none => []
  | .d8 d => [d]
  | .d32 d => disp32Bytes d

/-- ModRM.mod and ModRM.rm of a memory form. -/
def Addr.modRm : Addr → BitVec 2 × BitVec 3
  | .base b d => (d.mod, b.setWidth 3)
  | .disp32 _ => (0, 5)
  | .sib _ _ _ d => (d.mod, 4)
  | .sibDisp32 _ _ _ => (0, 4)

/-- The bytes after ModRM of a memory form. -/
def Addr.bytes : Addr → List Byte
  | .base _ d => d.bytes
  | .disp32 d => disp32Bytes d
  | .sib s i b d => (s ++ i.setWidth 3 ++ b.setWidth 3 : Byte) :: d.bytes
  | .sibDisp32 s i d => (s ++ i.setWidth 3 ++ 5#3 : Byte) :: disp32Bytes d

/-- ModRM.mod and ModRM.rm. -/
def Loc.modRm : Loc → BitVec 2 × BitVec 3
  | .reg r | .regEr r _ | .regSae r => (3, r.setWidth 3)
  | .mem a | .bcst a => a.modRm

/-- The bytes after ModRM that belong to r/m. -/
def Loc.bytes : Loc → List Byte
  | .reg _ | .regEr _ _ | .regSae _ => []
  | .mem a | .bcst a => a.bytes

/-- ModRM (R95). -/
def Parts.modrm (p : Parts) : Byte :=
  p.raw.rm.loc.modRm.1 ++ p.raw.reg.setWidth 3 ++ p.raw.rm.loc.modRm.2

/-- The bytes of an instruction given by its parts (R91). -/
def encodeParts (p : Parts) : List Byte :=
  p.raw.rm.pfx.map LegacyPrefix.byte ++
    [(0x62 : Byte), p.evex.p0, p.evex.p1, p.evex.p2, p.op.info.opcode, p.modrm] ++
      (p.raw.rm.loc.bytes ++ (if p.op.hasImm then [p.raw.imm] else []))

/-- The bytes of an instruction. Where a field is ignored the decoder takes every value of it and the encoder writes one:
`L'L` = 00 on the LLIG forms (spec/43_compare_scalar.md R260), 10 on packed forms with `{sae}`, unused register bits
stored as 1. -/
def encode (i : Instr) : List Byte := encodeParts i.parts

/-! ## The instructions of the opcode table as words -/

/-- The `n` bytes of `w`, least significant byte first. -/
def bytesLsbFirst : Nat → Nat → List Byte
  | 0, _ => []
  | n + 1, w => BitVec.ofNat 8 w :: bytesLsbFirst n (w / 256)

/-- The longest instruction (R104). -/
def maxLength : Nat := 15

/-- `bs` filled with zero bytes up to the longest instruction. -/
def padded (bs : List Byte) : List Byte := bs ++ List.replicate (maxLength - bs.length) 0

/-- The bytes give an instruction of the table. -/
def isTableBytes (bs : List Byte) : Bool :=
  match decodeParts .mode64 (padded bs) with
  | .parts _ _ => true
  | .invalid | .rejected _ => false

/-- The bytes of an instruction of `nbits` bits numbered `w`. The first byte is the least significant; if that is not an
instruction and the bytes in the other order are, the number is one of the table's own `match` numbers, whose first byte
is the most significant (R120; log entry 10). -/
def tableBytes (nbits w : Nat) : List Byte :=
  let bs := bytesLsbFirst (nbits / 8) w
  if isTableBytes bs then padded bs
  else if isTableBytes bs.reverse then padded bs.reverse
  else padded bs

/-- The instruction the decoder reads from an instruction of the opcode table with bits `w`. -/
def decodeTableWord (nbits w : Nat) : Option Instr :=
  match decode .mode64 (tableBytes nbits w) with
  | .instr i _ => some i
  | .invalid | .rejected _ => none

end Sys2Proof
end

