-- ==== Sys2Proof/Machine/Numerics.lean ====
section
/-! DEFINITION. Floating-point formats, exact values, rounding, and the BF16 and FP32 arithmetic on them
(spec/40_numerics_helpers.md R130 to R139, spec/41_bf16_arith.md R201, R202). Patterns are numbers below 2^width. -/

namespace Sys2Proof.Machine

/-! ## Formats -/

/-- A format by its exponent and fraction bits (R130). -/
structure Fmt where
  ebits : Nat
  fbits : Nat
deriving DecidableEq, Repr

def bf16 : Fmt := ⟨8, 7⟩
def fp16 : Fmt := ⟨5, 10⟩
def fp32 : Fmt := ⟨8, 23⟩
def fp64 : Fmt := ⟨11, 52⟩
/-- E5M2. -/
def bf8 : Fmt := ⟨5, 2⟩
/-- E4M3; its top exponent holds numbers (R132), so `isNaN` and `isInf` below do not apply to it. -/
def hf8 : Fmt := ⟨4, 3⟩

/-- The exponent bias (R130). -/
def Fmt.bias (f : Fmt) : Nat := 2 ^ (f.ebits - 1) - 1

/-- The exponent field of infinities and NaNs. -/
def Fmt.expOnes (f : Fmt) : Nat := 2 ^ f.ebits - 1

/-- The sign bit. -/
def Fmt.sign (f : Fmt) (x : Nat) : Bool := x.testBit (f.ebits + f.fbits)

/-- The exponent field. -/
def Fmt.exp (f : Fmt) (x : Nat) : Nat := x / 2 ^ f.fbits % 2 ^ f.ebits

/-- The fraction field. -/
def Fmt.frac (f : Fmt) (x : Nat) : Nat := x % 2 ^ f.fbits

/-- A pattern from its fields. -/
def Fmt.pack (f : Fmt) (sign : Bool) (exp frac : Nat) : Nat :=
  (if sign then 2 ^ (f.ebits + f.fbits) else 0) + exp * 2 ^ f.fbits + frac

/-- R131. -/
def Fmt.isZero (f : Fmt) (x : Nat) : Bool := f.exp x == 0 && f.frac x == 0
/-- R131. -/
def Fmt.isDenormal (f : Fmt) (x : Nat) : Bool := f.exp x == 0 && f.frac x != 0
/-- R131. -/
def Fmt.isInf (f : Fmt) (x : Nat) : Bool := f.exp x == f.expOnes && f.frac x == 0
/-- R131. -/
def Fmt.isNaN (f : Fmt) (x : Nat) : Bool := f.exp x == f.expOnes && f.frac x != 0
/-- The most significant fraction bit is 1 (R131). -/
def Fmt.isQNaN (f : Fmt) (x : Nat) : Bool := f.isNaN x && x.testBit (f.fbits - 1)
/-- The most significant fraction bit is 0 (R131). -/
def Fmt.isSNaN (f : Fmt) (x : Nat) : Bool := f.isNaN x && !x.testBit (f.fbits - 1)

/-- `QNAN(x)` (R134). -/
def Fmt.quiet (f : Fmt) (x : Nat) : Nat := x ||| 2 ^ (f.fbits - 1)

/-- A signed zero. -/
def Fmt.zero (f : Fmt) (sign : Bool) : Nat := f.pack sign 0 0
/-- A signed infinity. -/
def Fmt.inf (f : Fmt) (sign : Bool) : Nat := f.pack sign f.expOnes 0
/-- The largest finite magnitude with a sign. -/
def Fmt.maxFinite (f : Fmt) (sign : Bool) : Nat := f.pack sign (f.expOnes - 1) (2 ^ f.fbits - 1)
/-- `QNaN_Indefinite` (R134). -/
def Fmt.indefinite (f : Fmt) : Nat := f.pack true f.expOnes (2 ^ (f.fbits - 1))
/-- One, with a sign. -/
def Fmt.one (f : Fmt) (sign : Bool) : Nat := f.pack sign f.bias 0

/-- `DAZ(x)` (R139). -/
def Fmt.daz (f : Fmt) (x : Nat) : Nat := if f.isDenormal x then f.zero (f.sign x) else x

/-- The pattern with the given sign. -/
def Fmt.withSign (f : Fmt) (sign : Bool) (x : Nat) : Nat := f.pack sign (f.exp x) (f.frac x)

/-! ## Comparison -/

/-- The relation of two values (spec/42_bf16_misc.md R231). -/
inductive Rel where
  | un
  | lt
  | eq
  | gt
deriving DecidableEq, Repr

/-- An integer that orders the patterns that are not NaN as their values: the magnitude bits with the sign. -/
def Fmt.key (f : Fmt) (x : Nat) : Int :=
  if f.sign x then -((x % 2 ^ (f.ebits + f.fbits) : Nat) : Int) else ((x % 2 ^ (f.ebits + f.fbits) : Nat) : Int)

/-- `Rel(a, b)`, without DAZ. -/
def Fmt.rel (f : Fmt) (a b : Nat) : Rel :=
  if f.isNaN a || f.isNaN b then .un
  else if f.key a < f.key b then .lt
  else if f.key b < f.key a then .gt
  else .eq

/-! ## Exact values and rounding -/

/-- An exact value: an infinity, or `mag * 2^exp` with a sign that a zero keeps. -/
inductive XReal where
  | inf (neg : Bool)
  | fin (neg : Bool) (mag : Nat) (exp : Int)
deriving DecidableEq, Repr

/-- The significand with its hidden bit (R133). -/
def Fmt.mag (f : Fmt) (x : Nat) : Nat := if f.exp x = 0 then f.frac x else 2 ^ f.fbits + f.frac x

/-- The exponent of the significand's last bit (R133). -/
def Fmt.scale (f : Fmt) (x : Nat) : Int :=
  (if f.exp x = 0 then 1 else (f.exp x : Int)) - (f.bias : Int) - (f.fbits : Int)

/-- The exact value of a pattern whose top exponent holds numbers (HF8), or that is finite. -/
def Fmt.finite (f : Fmt) (x : Nat) : XReal := .fin (f.sign x) (f.mag x) (f.scale x)

/-- The exact value of a pattern that is not a NaN (R133). -/
def Fmt.value (f : Fmt) (x : Nat) : XReal := if f.isInf x then .inf (f.sign x) else f.finite x

/-- The four rounding modes (R135). -/
inductive RoundMode where
  | rne
  | rdn
  | rup
  | rtz
deriving DecidableEq, Repr

/-- Their codes (R135). -/
def RoundMode.ofBits (c : BitVec 2) : RoundMode :=
  if c = 0 then .rne else if c = 1 then .rdn else if c = 2 then .rup else .rtz

/-- `mag / 2^sh` rounded to an integer; `neg` is the sign of the value. -/
def roundShift (rm : RoundMode) (neg : Bool) (mag sh : Nat) : Nat :=
  let q := mag / 2 ^ sh
  let rem := mag % 2 ^ sh
  let up :=
    match rm with
    | .rne => decide (2 ^ sh < 2 * rem) || (2 * rem == 2 ^ sh && q % 2 == 1)
    | .rdn => neg && rem != 0
    | .rup => !neg && rem != 0
    | .rtz => false
  if up then q + 1 else q

/-- A magnitude rounded to `p` significant bits, the exponent unbounded (R201 step 4). -/
def roundPrec (rm : RoundMode) (p : Nat) (neg : Bool) (mag : Nat) (exp : Int) : Nat × Int :=
  let sh := Nat.log2 mag + 1 - p
  (roundShift rm neg mag sh, exp + (sh : Int))

/-- The exponent of the leading bit of a nonzero magnitude. -/
def topExp (mag : Nat) (exp : Int) : Int := (Nat.log2 mag : Int) + exp

/-- The pattern of a magnitude in the normal range of `f`, with at most `fbits + 1` significant bits. -/
def Fmt.normal (f : Fmt) (neg : Bool) (mag : Nat) (exp : Int) : Nat :=
  let sig := if Nat.log2 mag ≤ f.fbits then mag * 2 ^ (f.fbits - Nat.log2 mag) else mag / 2 ^ (Nat.log2 mag - f.fbits)
  f.pack neg (topExp mag exp + (f.bias : Int)).toNat (sig - 2 ^ f.fbits)

/-- Rounds to nearest even with tiny results flushed, tininess after rounding (R201 steps 4 to 7, D13). -/
def Fmt.roundFtz (f : Fmt) : XReal → Nat
  | .inf neg => f.inf neg
  | .fin neg mag exp =>
    if mag = 0 then f.zero neg
    else
      let q := roundPrec .rne (f.fbits + 1) neg mag exp
      let e := topExp q.1 q.2
      if e < 1 - (f.bias : Int) then f.zero neg
      else if (f.bias : Int) < e then f.inf neg
      else f.normal neg q.1 q.2

/-! ## Exact operations; `none` is an invalid combination (R202) -/

/-- The negation. -/
def XReal.neg : XReal → XReal
  | .inf n => .inf (!n)
  | .fin n m e => .fin (!n) m e

/-- The sum of two signed magnitudes. An exact zero is positive unless both terms are negative (R201 step 3). -/
def addFinite (n1 : Bool) (m1 : Nat) (e1 : Int) (n2 : Bool) (m2 : Nat) (e2 : Int) : XReal :=
  let e := if e1 ≤ e2 then e1 else e2
  let a1 := m1 * 2 ^ (e1 - e).toNat
  let a2 := m2 * 2 ^ (e2 - e).toNat
  if n1 = n2 then .fin n1 (a1 + a2) e
  else if a1 = a2 then .fin false 0 e
  else if a2 < a1 then .fin n1 (a1 - a2) e
  else .fin n2 (a2 - a1) e

/-- The sum. -/
def XReal.add : XReal → XReal → Option XReal
  | .inf n1, .inf n2 => if n1 = n2 then some (.inf n1) else none
  | .inf n1, .fin _ _ _ => some (.inf n1)
  | .fin _ _ _, .inf n2 => some (.inf n2)
  | .fin n1 m1 e1, .fin n2 m2 e2 => some (addFinite n1 m1 e1 n2 m2 e2)

/-- The product. -/
def XReal.mul : XReal → XReal → Option XReal
  | .inf n1, .inf n2 => some (.inf (n1 != n2))
  | .inf n1, .fin n2 m2 _ => if m2 = 0 then none else some (.inf (n1 != n2))
  | .fin n1 m1 _, .inf n2 => if m1 = 0 then none else some (.inf (n1 != n2))
  | .fin n1 m1 e1, .fin n2 m2 e2 => some (.fin (n1 != n2) (m1 * m2) (e1 + e2))

/-- The quotient to at least `bits` significant bits and a sticky bit: it rounds as the exact quotient does to any shorter
precision. -/
def divFinite (bits : Nat) (neg : Bool) (m1 : Nat) (e1 : Int) (m2 : Nat) (e2 : Int) : XReal :=
  let k := bits + Nat.log2 m2 + 1
  let n := m1 * 2 ^ k
  .fin neg (2 * (n / m2) + (if n % m2 = 0 then 0 else 1)) (e1 - e2 - (k : Int) - 1)

/-- The quotient, for rounding to fewer than `bits` bits. -/
def XReal.div (bits : Nat) : XReal → XReal → Option XReal
  | .inf _, .inf _ => none
  | .inf n1, .fin n2 _ _ => some (.inf (n1 != n2))
  | .fin n1 _ _, .inf n2 => some (.fin (n1 != n2) 0 0)
  | .fin n1 m1 e1, .fin n2 m2 e2 =>
    if m2 = 0 then (if m1 = 0 then none else some (.inf (n1 != n2)))
    else if m1 = 0 then some (.fin (n1 != n2) 0 0)
    else some (divFinite bits (n1 != n2) m1 e1 m2 e2)

/-- The integer square root, bit by bit: the largest `r + d`, `d < 2^bits`, whose square is at most `n`. -/
def isqrtFrom (n : Nat) : Nat → Nat → Nat
  | 0, r => r
  | b + 1, r => if (r + 2 ^ b) * (r + 2 ^ b) ≤ n then isqrtFrom n b (r + 2 ^ b) else isqrtFrom n b r

/-- The integer square root. -/
def isqrt (n : Nat) : Nat := isqrtFrom n (Nat.log2 n / 2 + 1) 0

/-- The square root of a positive value to at least `bits` significant bits and a sticky bit. -/
def sqrtFinite (bits : Nat) (mag : Nat) (exp : Int) : XReal :=
  let k := 2 * bits + (if (exp % 2 = 0) then 0 else 1)
  let n := mag * 2 ^ k
  let r := isqrt n
  .fin false (2 * r + (if r * r = n then 0 else 1)) ((exp - (k : Int)) / 2 - 1)

/-- The square root, for rounding to fewer than `bits` bits. -/
def XReal.sqrt (bits : Nat) : XReal → Option XReal
  | .inf n => if n then none else some (.inf false)
  | .fin n m e => if m = 0 then some (.fin n 0 0) else if n then none else some (sqrtFinite bits m e)

/-! ## Operations on patterns, with DAZ, FTZ and RNE (R201, R202) -/

/-- The rounded result, or the indefinite NaN of an invalid combination. -/
def Fmt.finish (f : Fmt) : Option XReal → Nat
  | some r => f.roundFtz r
  | none => f.indefinite

/-- The value after DAZ. -/
def Fmt.dazValue (f : Fmt) (x : Nat) : XReal := f.value (f.daz x)

/-- The first NaN of a list of operands, quieted (R202). -/
def Fmt.firstNaN (f : Fmt) : List Nat → Option Nat
  | [] => none
  | x :: xs => if f.isNaN x then some (f.quiet x) else f.firstNaN xs

/-- A two-operand operation. -/
def Fmt.arith2 (f : Fmt) (op : XReal → XReal → Option XReal) (a b : Nat) : Nat :=
  match f.firstNaN [a, b] with
  | some n => n
  | none => f.finish (op (f.dazValue a) (f.dazValue b))

/-- The bits a quotient or root is computed to. -/
def Fmt.guardBits (f : Fmt) : Nat := f.fbits + 3

def Fmt.add (f : Fmt) : Nat → Nat → Nat := f.arith2 XReal.add
def Fmt.sub (f : Fmt) : Nat → Nat → Nat := f.arith2 fun x y => x.add y.neg
def Fmt.mul (f : Fmt) : Nat → Nat → Nat := f.arith2 XReal.mul
def Fmt.div (f : Fmt) : Nat → Nat → Nat := f.arith2 (XReal.div f.guardBits)

/-- The square root (spec/41_bf16_arith.md R209). -/
def Fmt.sqrt (f : Fmt) (x : Nat) : Nat :=
  if f.isNaN x then f.quiet x else f.finish ((f.dazValue x).sqrt f.guardBits)

/-- `a*b + c` with one rounding, the product and the addend negated as asked; no operand is a NaN. -/
def Fmt.fmaCore (f : Fmt) (negProd negAdd : Bool) (a b c : Nat) : Nat :=
  match (f.dazValue a).mul (f.dazValue b) with
  | none => f.indefinite
  | some p =>
    let p := if negProd then p.neg else p
    let c := if negAdd then (f.dazValue c).neg else f.dazValue c
    f.finish (p.add c)

/-- The greatest integer at most the value of a finite pattern. -/
def floorFinite (neg : Bool) (mag : Nat) (exp : Int) : Int :=
  if 0 ≤ exp then (if neg then -((mag * 2 ^ exp.toNat : Nat) : Int) else ((mag * 2 ^ exp.toNat : Nat) : Int))
  else
    let d := 2 ^ (-exp).toNat
    if neg then -(((mag + d - 1) / d : Nat) : Int) else ((mag / d : Nat) : Int)

end Sys2Proof.Machine
end

