-- ==== Sys2Proof/Machine/State.lean ====
section
/-! DEFINITION. The machine's state as plain data, its value after reset, the reasons a step can stop
(spec/10_state.md, spec/60_exceptions.md R420, R434). -/

namespace Sys2Proof.Machine

/-- The four registers of a CPUID leaf. -/
structure CpuidLeaf where
  eax : BitVec 32
  ebx : BitVec 32
  ecx : BitVec 32
  edx : BitVec 32
deriving DecidableEq, Repr

/-- The CPUID leaves of spec/10_state.md R42. -/
structure Cpuid where
  /-- CPUID.(EAX=07H,ECX=01H):EDX -/
  leaf7s1Edx  : BitVec 32
  /-- CPUID.(EAX=24H,ECX=00H) -/
  leaf24s0Eax : BitVec 32
  leaf24s0Ebx : BitVec 32
  leaf24s0Ecx : BitVec 32
  leaf24s0Edx : BitVec 32
  /-- CPUID.(EAX=24H,ECX=01H) -/
  leaf24s1Eax : BitVec 32
  leaf24s1Ebx : BitVec 32
  leaf24s1Ecx : BitVec 32
  leaf24s1Edx : BitVec 32
  /-- CPUID leaf 0DH, subleaves 0 to 7: the XSAVE state components and their sizes -/
  leaf0D      : Vector CpuidLeaf 8
deriving DecidableEq, Repr

/-- The segment bases (spec/20_memory.md R62). In 64-bit mode only those of FS and GS are used. -/
structure SegBases where
  es : Address
  cs : Address
  ss : Address
  ds : Address
  fs : Address
  gs : Address
deriving DecidableEq, Repr

/-- The two kinds of data access (spec/20_memory.md R61, R70). -/
inductive Access where
  | read
  | write
deriving DecidableEq, Repr

/-- What the translation answers for the bytes of a region (spec/20_memory.md R70). -/
inductive RegionKind where
  /-- mapped: the physical address is the linear address plus `delta`. -/
  | mapped (delta : Address)
  /-- an illegal address: #SS(0) through SS, #GP(0) through another segment. -/
  | illegal
  /-- a page fault with its error code. -/
  | pageFault (code : BitVec 32)
deriving DecidableEq, Repr

/-- One row of the table that holds the oracle `Translate(ea, n, access, segment)`: its answer for the bytes at the linear
addresses `first` to `last`, for the arguments given here; `none` stands for every value of the argument. -/
structure Region where
  first  : Address
  last   : Address
  /-- the address of the access the byte belongs to -/
  ea     : Option Address
  /-- the size of that access in bytes (spec/20_memory.md R65) -/
  size   : Option Nat
  access : Option Access
  seg    : Option Seg
  kind   : RegionKind
deriving DecidableEq, Repr

/-- The state of one hardware thread. -/
structure State where
  /-- the vector registers (spec/10_state.md R20) -/
  zmm         : Vector (BitVec 512) 32
  /-- the opmask registers (R24) -/
  k           : Vector (BitVec 64) 8
  /-- the general registers (R36) -/
  gpr         : Vector (BitVec 64) 16
  /-- RIP, EIP outside 64-bit mode (R37) -/
  pc          : BitVec 64
  /-- R28 -/
  mxcsr       : BitVec 32
  /-- R32 -/
  eflags      : BitVec 32
  /-- TS and AM are read (R40, R34) -/
  cr0         : BitVec 64
  /-- OSXMMEXCPT and OSXSAVE are read (R38, R39) -/
  cr4         : BitVec 64
  /-- R41 -/
  xcr0        : BitVec 64
  /-- R42 -/
  cpuid       : Cpuid
  /-- spec/60_exceptions.md R436 -/
  mode        : Mode
  /-- spec/00_scope.md R12 -/
  cpl         : BitVec 2
  /-- spec/20_memory.md R62 -/
  segBase     : SegBases
  /-- the `Translate` oracle; the first row for a byte and an access answers, no row is the identity
  (spec/20_memory.md R70, log entry 7) -/
  translation : List Region
  /-- memory: address and byte, addresses rising, no zero byte listed (spec/20_memory.md R60, log entry 8) -/
  mem         : List Host.Cell
deriving DecidableEq, Repr

/-- The exceptions as terminal outcomes (spec/60_exceptions.md R434): each carries the state before the instruction, with
the MXCSR flags of R432 where that rule records them. All are raised by the machine for the reasons of R420, and all are
safe: the hardware goes on in a handler that the spec does not describe, the model stops. -/
inductive Fault where
  /-- #UD, vector 6: raised for the conditions of spec/30_encoding.md R108 and for an unmasked SIMD floating-point
  exception with CR4.OSXMMEXCPT = 0. Safe. -/
  | invalidOpcode (s : State)
  /-- #NM, vector 7: raised when CR0.TS = 1. Safe. -/
  | deviceNotAvailable (s : State)
  /-- #SS(0), vector 12: raised for an illegal address through SS. Safe. -/
  | stackFault (s : State)
  /-- #GP(0), vector 13: raised for an illegal address through another segment. Safe. -/
  | generalProtection (s : State)
  /-- #PF(code), vector 14: raised for a page fault, with the code of the translation. Safe. -/
  | pageFault (code : BitVec 32) (s : State)
  /-- #AC(0), vector 17: raised for an unaligned 2, 4 or 8 byte access when alignment checking is on at CPL 3. Safe. -/
  | alignmentCheck (s : State)
  /-- #XM, vector 19: raised for an unmasked SIMD floating-point exception with CR4.OSXMMEXCPT = 1. Safe. -/
  | simdFloatingPoint (s : State)
deriving DecidableEq, Repr

/-- Reasons the model gives no outcome. -/
inductive Refusal where
  /-- An instruction without a meaning in this model; raised by the dispatcher only. Safe. -/
  | notModelled (mnemonic : String)
  /-- Bytes that are no encoding of this spec (spec/30_encoding.md R118); raised by the step. Safe. -/
  | foreignEncoding
  /-- An instruction of more than 15 bytes (spec/93_implementation_defined.md T16); raised by the step. Safe. -/
  | overlong
  /-- 16-bit addressing in a 32-bit mode (spec/93_implementation_defined.md T17); raised by the step. Safe. -/
  | address16
  /-- The next pc is past the address width (spec/10_state.md R46); raised when an instruction completes. Safe. -/
  | pcOverflow
deriving DecidableEq, Repr

/-- CPUID leaf 0DH of a processor with the AVX-512 state components (PRESUMED, log entry 33; spec/10_state.md R42 gives no
value): the components of XCR0 and their sizes, the XSAVE features, then size and offset of each component. -/
def Cpuid.leaf0DReset : Vector CpuidLeaf 8 :=
  #v[⟨0xE7, 0x240, 0xA80, 0⟩, ⟨0xF, 0x240, 0, 0⟩, ⟨0x100, 0x240, 0, 0⟩, ⟨0, 0, 0, 0⟩, ⟨0, 0, 0, 0⟩, ⟨0x40, 0x440, 0, 0⟩,
    ⟨0x200, 0x480, 0, 0⟩, ⟨0x400, 0x680, 0, 0⟩]

/-- CPUID of an AVX10.2 processor (spec/10_state.md R42); reserved bits are 0 (log entry 5). -/
def Cpuid.reset : Cpuid where
  leaf7s1Edx  := 0x00080000
  leaf24s0Eax := 1
  leaf24s0Ebx := 0x00070002
  leaf24s0Ecx := 0
  leaf24s0Edx := 0
  leaf24s1Eax := 0
  leaf24s1Ebx := 0
  leaf24s1Ecx := 4
  leaf24s1Edx := 0
  leaf0D      := Cpuid.leaf0DReset

/-- The machine after reset (spec/10_state.md R47, spec/00_scope.md R12; log entries 2 to 8). -/
def State.reset : State where
  zmm         := Vector.replicate 32 0
  k           := Vector.replicate 8 0
  gpr         := Vector.replicate 16 0
  pc          := 0
  mxcsr       := 0x00001F80
  eflags      := 0x00000002
  cr0         := 0
  cr4         := 0
  xcr0        := 1
  cpuid       := Cpuid.reset
  mode        := .mode64
  cpl         := 3
  segBase     := ⟨0, 0, 0, 0, 0, 0⟩
  translation := []
  mem         := []

end Sys2Proof.Machine
end

