-- ==== Sys2Proof/Machine/Ops.lean ====
section
/-! DEFINITION. The named operations over memory and registers, raising an exception, the conditions every instruction
checks first, and its completion (spec/20_memory.md, spec/60_exceptions.md, spec/30_encoding.md R114). -/

namespace Sys2Proof.Machine

/-- The outcome of a step. -/
abbrev Out := Host.Outcome State Fault Refusal

/-! ## Memory -/

/-- What a byte that nothing has written reads as (DESIGN CHOICE, log entry 8). -/
def unlisted : Byte := 0

/-- The byte at an address. -/
def memRead : List Host.Cell → Nat → Byte
  | [], _ => unlisted
  | c :: rest, a => if c.1 = a then c.2 else if a < c.1 then unlisted else memRead rest a

/-- Writes one byte, keeping the canonical form: writing what an unlisted address reads as removes the entry. -/
def memWrite : List Host.Cell → Nat → Byte → List Host.Cell
  | [], a, b => if b = unlisted then [] else [(a, b)]
  | c :: rest, a, b =>
    if c.1 < a then c :: memWrite rest a b
    else if c.1 = a then (if b = unlisted then rest else (a, b) :: rest)
    else if b = unlisted then c :: rest else (a, b) :: c :: rest

/-- The canonical form: addresses strictly rising, no listed byte equal to what an unlisted address reads as. -/
def memWf : List Host.Cell → Bool
  | [] => true
  | [c] => c.2 != unlisted
  | c :: d :: rest => c.2 != unlisted && decide (c.1 < d.1) && memWf (d :: rest)

/-- The byte of memory at a 64-bit address. -/
def State.byteAt (s : State) (a : Address) : Byte := memRead s.mem a.toNat

/-- Writes the byte of memory at a 64-bit address. -/
def State.setByte (s : State) (a : Address) (b : Byte) : State := { s with mem := memWrite s.mem a.toNat b }

/-! ## Registers -/

/-- A vector register (spec/10_state.md R20). -/
def State.vec (s : State) (r : VReg) : Zmm := s.zmm[r.toNat]'r.isLt

/-- Writes all 512 bits of a vector register (spec/10_state.md R21). -/
def State.setVec (s : State) (r : VReg) (v : Zmm) : State := { s with zmm := s.zmm.set r.toNat v r.isLt }

/-- An opmask register (spec/10_state.md R24). -/
def State.opmask (s : State) (r : KReg) : BitVec 64 := s.k[r.toNat]'r.isLt

/-- Writes all 64 bits of an opmask register. -/
def State.setOpmask (s : State) (r : KReg) (v : BitVec 64) : State := { s with k := s.k.set r.toNat v r.isLt }

/-- A general register (spec/10_state.md R36). -/
def State.general (s : State) (r : GReg) : BitVec 64 := s.gpr[r.toNat]'r.isLt

/-- Writes all 64 bits of a general register. -/
def State.setGeneral (s : State) (r : GReg) (v : BitVec 64) : State := { s with gpr := s.gpr.set r.toNat v r.isLt }

/-! ## Control bits -/

/-- CR0.TS (spec/10_state.md R40). -/
def State.ts (s : State) : Bool := s.cr0.getLsbD 3

/-- CR4.OSXSAVE (spec/10_state.md R38). -/
def State.osxsave (s : State) : Bool := s.cr4.getLsbD 18

/-- CR4.OSXMMEXCPT (spec/10_state.md R39). -/
def State.osxmmexcpt (s : State) : Bool := s.cr4.getLsbD 10

/-- XCR0[7:5] = 111b and XCR0[2:1] = 11b (spec/10_state.md R41). -/
def State.xcr0Enabled (s : State) : Bool :=
  s.xcr0.getLsbD 1 && s.xcr0.getLsbD 2 && s.xcr0.getLsbD 5 && s.xcr0.getLsbD 6 && s.xcr0.getLsbD 7

/-- Alignment checking is enabled: CR0.AM and EFLAGS.AC (spec/10_state.md R34, spec/20_memory.md R69; log entry 13). -/
def State.acEnabled (s : State) : Bool := s.cr0.getLsbD 18 && s.eflags.getLsbD 18

/-- The processor implements AVX10.2 (spec/00_scope.md R2). -/
def Cpuid.avx10v2 (c : Cpuid) : Bool :=
  c.leaf7s1Edx.getLsbD 19 && decide (2 ≤ (c.leaf24s0Ebx.extractLsb' 0 8).toNat)

/-- The AVX10_VNNI_INT flag (spec/00_scope.md R3). -/
def Cpuid.vnniInt (c : Cpuid) : Bool := c.leaf24s1Ecx.getLsbD 2

/-- The CPUID column of a form is satisfied (spec/30_encoding.md R108 d). -/
def Cpuid.has (c : Cpuid) : Feature → Bool
  | .avx10v2 => c.avx10v2
  | .avx10v2OrVnniInt => c.avx10v2 || c.vnniInt

/-! ## Exceptions -/

/-- The seven exceptions with their error codes (spec/60_exceptions.md R420, R439). -/
inductive Exc where
  | ud
  | nm
  | ss
  | gp
  | pf (code : BitVec 32)
  | ac
  | xm
deriving DecidableEq, Repr

/-- Vector numbers (spec/60_exceptions.md R420). -/
def Exc.vector : Exc → Nat
  | .ud => 6
  | .nm => 7
  | .ss => 12
  | .gp => 13
  | .pf _ => 14
  | .ac => 17
  | .xm => 19

/-- The error code, `none` where the exception has none (spec/60_exceptions.md R439). -/
def Exc.errorCode : Exc → Option (BitVec 32)
  | .ss | .gp | .ac => some 0
  | .pf code => some code
  | .ud | .nm | .xm => none

/-- TAKING AN EXCEPTION. The spec describes no delivery: `raise` is a terminal outcome whose state, tagged with the
exception and its code, is the state given here (spec/60_exceptions.md R434; log entry 1). There is no return from an
exception (R435). -/
def raise (e : Exc) (s : State) : Out :=
  match e with
  | .ud => .fault (.invalidOpcode s)
  | .nm => .fault (.deviceNotAvailable s)
  | .ss => .fault (.stackFault s)
  | .gp => .fault (.generalProtection s)
  | .pf code => .fault (.pageFault code s)
  | .ac => .fault (.alignmentCheck s)
  | .xm => .fault (.simdFloatingPoint s)

/-! ## The start and the end of every instruction -/

/-- A state in which every form of the feature raises #UD (spec/30_encoding.md R108 a to d). -/
def State.undefinedHere (s : State) (f : Feature) : Bool :=
  s.mode == .real || s.mode == .virtual8086 || !s.osxsave || !s.xcr0Enabled || !s.cpuid.has f

/-- Steps 2 and 3 of spec/30_encoding.md R114: #UD, then #NM, then the rest of the instruction. -/
def guarded (op : Op) (s : State) (rest : Out) : Out :=
  if s.undefinedHere op.info.feature then raise .ud s
  else if s.ts then raise .nm s
  else rest

/-- The width of an instruction address (spec/10_state.md R37). -/
def State.pcBits (s : State) : Nat := if s.mode = .mode64 then 64 else 32

/-- The next instruction address fits (spec/10_state.md R46). -/
def State.pcFits (s : State) (len : Nat) : Bool := decide (s.pc.toNat + len < 2 ^ s.pcBits)

/-- `pc <- pc + L` (spec/10_state.md R46). -/
def State.advance (s : State) (len : Nat) : State := { s with pc := s.pc + BitVec.ofNat 64 len }

/-- Step 9 of spec/30_encoding.md R114; refused past the address width (spec/10_state.md R46). -/
def complete (len : Nat) (s : State) : Out :=
  if s.pcFits len then .next (s.advance len) else .refused .pcOverflow

end Sys2Proof.Machine
end

