-- ==== Sys2Proof/Machine/Flags.lean ====
section
/-! DEFINITION. MXCSR and EFLAGS: their fields, every flag computation, and the SIMD floating-point exception
(spec/10_state.md R28 to R33, spec/60_exceptions.md R432). -/

namespace Sys2Proof.Machine

/-! ## The exception flags -/

/-- Invalid operation. -/
def flagIE : Flags := 0x01
/-- Denormal operand. -/
def flagDE : Flags := 0x02
/-- Divide by zero; no instruction of this spec signals it. -/
def flagZE : Flags := 0x04
/-- Overflow. -/
def flagOE : Flags := 0x08
/-- Underflow. -/
def flagUE : Flags := 0x10
/-- Precision. -/
def flagPE : Flags := 0x20

/-- A set of flags under a condition. -/
def when (c : Bool) (f : Flags) : Flags := if c then f else 0

/-- The flags the unmasked elements below `n` signal (spec/30_encoding.md R114 step 5). -/
def collectFlags (active : Nat → Bool) (fl : Nat → Flags) : Nat → Flags
  | 0 => 0
  | n + 1 => collectFlags active fl n ||| (if active n then fl n else 0)

/-! ## MXCSR -/

/-- MXCSR.DAZ (spec/10_state.md R28). -/
def State.daz (s : State) : Bool := s.mxcsr.getLsbD 6

/-- MXCSR.RC (spec/10_state.md R28). -/
def State.rc (s : State) : RoundMode := RoundMode.ofBits (s.mxcsr.extractLsb' 13 2)

/-- The six mask bits in the order of the flags (spec/10_state.md R28). -/
def State.masks (s : State) : Flags := s.mxcsr.extractLsb' 7 6

/-- MXCSR.flags <- MXCSR.flags OR F: the flags are sticky (spec/10_state.md R29). -/
def State.orFlags (s : State) (f : Flags) : State := { s with mxcsr := s.mxcsr ||| f.setWidth 32 }

/-- The rounding mode of a form with `{er}`: embedded, else MXCSR.RC (spec/30_encoding.md R102). -/
def State.roundMode (s : State) (loc : Loc) : RoundMode :=
  match loc with
  | .regEr _ rc => RoundMode.ofBits rc
  | .reg _ | .regSae _ | .mem _ | .bcst _ => s.rc

/-- The flags that count: none with SAE in force (spec/60_exceptions.md R432, D12). -/
def effectiveFlags (loc : Loc) (f : Flags) : Flags := if loc.sae then 0 else f

/-- Some flag of `f` is unmasked and the class consults the masks (spec/60_exceptions.md R432). -/
def State.unmasked (s : State) (cls : ExcClass) (f : Flags) : Bool := cls.consultsMasks && f &&& ~~~s.masks != 0

/-- Steps 5 to 7 of spec/30_encoding.md R114 for the signalled flags `f`: an unmasked one records `f` and raises #XM, or
#UD with CR4.OSXMMEXCPT = 0; otherwise `f` is recorded and the instruction goes on (spec/60_exceptions.md R432). -/
def signal (op : Op) (loc : Loc) (f : Flags) (s : State) (rest : State → Out) : Out :=
  let fl := effectiveFlags loc f
  if s.unmasked op.info.cls fl then raise (if s.osxmmexcpt then .xm else .ud) (s.orFlags fl)
  else rest (s.orFlags fl)

/-! ## EFLAGS -/

/-- The six status flags: CF 0, PF 2, AF 4, ZF 6, SF 7, OF 11 (spec/10_state.md R32). -/
def statusMask : BitVec 32 := 0x000008D5

/-- The status flags as EFLAGS bits. -/
def statusBits (of sf zf af pf cf : Bool) : BitVec 32 :=
  (if of then 0x800#32 else 0) ||| (if sf then 0x80#32 else 0) ||| (if zf then 0x40#32 else 0) |||
    (if af then 0x10#32 else 0) ||| (if pf then 0x4#32 else 0) ||| (if cf then 0x1#32 else 0)

/-- Writes the six status flags; the other bits stay (spec/10_state.md R32). -/
def State.setStatus (s : State) (bits : BitVec 32) : State := { s with eflags := (s.eflags &&& ~~~statusMask) ||| bits }

/-- OF, SF, ZF, PF, CF of VCOMX and VUCOMX, AF = 0 (spec/43_compare_scalar.md R261). -/
def Rel.comxStatus : Rel → BitVec 32
  | .un => statusBits true true false false true true
  | .gt => statusBits false false false false false false
  | .lt => statusBits true false false false false true
  | .eq => statusBits true true true false false false

/-- ZF, PF, CF of VCOMISBF16, OF = AF = SF = 0 (spec/42_bf16_misc.md R232). -/
def Rel.comisStatus : Rel → BitVec 32
  | .un => statusBits false false true false true true
  | .gt => statusBits false false false false false false
  | .lt => statusBits false false false false false true
  | .eq => statusBits false false true false false false

end Sys2Proof.Machine
end

