-- ==== Sys2Proof/Machine/Operands.lean ====
section
/-! DEFINITION. Operand forms: elements of vectors, effective addresses, translation and access checks, the r/m source, the
store, write masks (spec/20_memory.md, spec/30_encoding.md R111 to R113). -/

namespace Sys2Proof.Machine

/-! ## Elements -/

/-- Element `i` of width `w` (spec/00_scope.md R14). -/
def lane (w i : Nat) (v : Zmm) : BitVec w := v.extractLsb' (w * i) w

/-- The number whose `w`-bit digits are `f 0`, ..., `f (n-1)`, least significant first. -/
def assembleNat (w : Nat) : Nat → (Nat → BitVec w) → Nat
  | 0, _ => 0
  | n + 1, f => assembleNat w n f + (f n).toNat * 2 ^ (w * n)

/-- The vector with elements `f 0`, ..., `f (n-1)` of width `w`, zero above. -/
def assemble (w n : Nat) (f : Nat → BitVec w) : Zmm := BitVec.ofNat 512 (assembleNat w n f)

/-- One element in every position (embedded broadcast, spec/20_memory.md R66); `bytes` is the element's size. -/
def replicateElem (bytes : Nat) (v : Zmm) : Zmm := assemble (8 * bytes) (64 / bytes) (fun _ => lane (8 * bytes) 0 v)

/-! ## Write masks -/

/-- Element `j` is processed under mask selector `aaa` (spec/10_state.md R25). -/
def State.active (s : State) (aaa : KReg) (j : Nat) : Bool := aaa == 0 || (s.opmask aaa).getLsbD j

/-- The new value of a vector destination (spec/30_encoding.md R112): merging or zeroing, and zero above `w * n`. -/
def maskedVec (w n : Nat) (active : Nat → Bool) (z : Bool) (old : Zmm) (res : Nat → BitVec w) : Zmm :=
  assemble w n fun j => if active j then res j else if z then 0 else lane w j old

/-- The new value of an opmask destination (spec/30_encoding.md R113): masked-off bits and bits from `n` up are 0. -/
def maskBits (n : Nat) (active : Nat → Bool) (bitAt : Nat → Bool) : BitVec 64 :=
  BitVec.ofNat 64 (assembleNat 1 n fun j => BitVec.ofBool (active j && bitAt j))

/-! ## Effective address -/

/-- The value of a displacement, the byte scaled by `n` (spec/20_memory.md R62, R63). -/
def dispValue (n : Nat) : Disp → BitVec 64
  | .none => 0
  | .d8 d => d.signExtend 64 * BitVec.ofNat 64 n
  | .d32 d => d.signExtend 64

/-- The scaled index; number 4 is no index (spec/20_memory.md R62). -/
def State.indexValue (s : State) (scale : BitVec 2) (i : GReg) : BitVec 64 :=
  if i = 4 then 0 else s.general i <<< scale.toNat

/-- Base + Index*Scale + Disp (spec/20_memory.md R62); `next` is the address of the next instruction, `n` the
displacement scale. -/
def State.offset (s : State) (next : Address) (n : Nat) : Addr → BitVec 64
  | .base b d => s.general b + dispValue n d
  | .disp32 d => if s.mode = .mode64 then next + d.signExtend 64 else d.signExtend 64
  | .sib scale i b d => s.general b + s.indexValue scale i + dispValue n d
  | .sibDisp32 scale i d => s.indexValue scale i + d.signExtend 64

/-- The low 32 bits, zero extended. -/
def low32 (a : BitVec 64) : BitVec 64 := (a.setWidth 32).setWidth 64

/-- The segment of the last override, if any (log entry 14). -/
def segOverride : List LegacyPrefix → Option Seg
  | [] => none
  | p :: ps =>
    match segOverride ps with
    | some g => some g
    | none =>
      match p with
      | .seg g => some g
      | .addr32 => none

/-- SS for a base register RSP or RBP, DS otherwise (spec/20_memory.md R62). -/
def defaultSeg : Addr → Seg
  | .base b _ | .sib _ _ b _ => if b = 4 ∨ b = 5 then .ss else .ds
  | .disp32 _ | .sibDisp32 _ _ _ => .ds

/-- The segment of a memory operand. -/
def operandSeg (rm : RM) (a : Addr) : Seg := (segOverride rm.pfx).getD (defaultSeg a)

/-- SegBase: in 64-bit mode only FS and GS have one (spec/20_memory.md R62). -/
def State.segmentBase (s : State) (g : Seg) : Address :=
  match g with
  | .fs => s.segBase.fs
  | .gs => s.segBase.gs
  | .es => if s.mode = .mode64 then 0 else s.segBase.es
  | .cs => if s.mode = .mode64 then 0 else s.segBase.cs
  | .ss => if s.mode = .mode64 then 0 else s.segBase.ss
  | .ds => if s.mode = .mode64 then 0 else s.segBase.ds

/-- The linear address of a memory operand (spec/20_memory.md R62): offsets are 32 bits wide outside 64-bit mode and under
67H, linear addresses outside 64-bit mode (log entries 18, 19). -/
def State.linear (s : State) (op : Op) (vl : VL) (bcst : Bool) (rm : RM) (a : Addr) : Address :=
  let off := s.offset (s.pc + BitVec.ofNat 64 (op.length rm)) (op.dispScale vl bcst) a
  if s.mode = .mode64 then
    s.segmentBase (operandSeg rm a) + (if rm.pfx.contains .addr32 then low32 off else off)
  else low32 (s.segmentBase (operandSeg rm a) + low32 off)

/-! ## Translation and checks -/

/-- The byte is mapped. -/
def RegionKind.isMapped : RegionKind → Bool
  | .mapped _ => true
  | .illegal | .pageFault _ => false

/-- The address is illegal. -/
def RegionKind.isIllegal : RegionKind → Bool
  | .illegal => true
  | .mapped _ | .pageFault _ => false

/-- The page-fault code. -/
def RegionKind.faultCode : RegionKind → Option (BitVec 32)
  | .pageFault c => some c
  | .mapped _ | .illegal => none

/-- One access to memory: where, through which segment, its size (spec/20_memory.md R65) and the byte offsets that are
accessed (R71, R72). -/
structure MemAccess where
  acc  : Access
  seg  : Seg
  ea   : Address
  size : Nat
  offs : List Nat
deriving DecidableEq, Repr

/-- The linear address of the byte at an offset. -/
def MemAccess.at (m : MemAccess) (o : Nat) : Address := m.ea + BitVec.ofNat 64 o

/-- The argument is the one the row is for. -/
def fitsArg {α : Type} [BEq α] (row : Option α) (x : α) : Bool := row.isNone || row == some x

/-- The row answers for the byte at an offset of an access. -/
def Region.answers (r : Region) (m : MemAccess) (o : Nat) : Bool :=
  decide (r.first ≤ m.at o) && decide (m.at o ≤ r.last) && fitsArg r.ea m.ea && fitsArg r.size m.size &&
    fitsArg r.access m.acc && fitsArg r.seg m.seg

/-- `Translate(ea, n, access, segment)` for the byte at an offset of the access (spec/20_memory.md R70). -/
def State.translate (s : State) (m : MemAccess) (o : Nat) : RegionKind :=
  match s.translation.find? (fun r => r.answers m o) with
  | some r => r.kind
  | none => .mapped 0

/-- Where the byte at an offset of an access lies in memory. -/
def State.physical (s : State) (m : MemAccess) (o : Nat) : Address :=
  match s.translate m o with
  | .mapped delta => m.at o + delta
  | .illegal | .pageFault _ => m.at o

/-- The access is one of 2, 4 or 8 bytes, unaligned, and alignment checking applies (spec/20_memory.md R69). -/
def State.misaligned (s : State) (m : MemAccess) : Bool :=
  s.acEnabled && s.cpl == 3 && (m.size == 2 || m.size == 4 || m.size == 8) && m.ea.toNat % m.size != 0 && !m.offs.isEmpty

/-- The memory fault of an access: #SS or #GP, then #PF, then #AC; among page faults that of the lowest byte
(spec/60_exceptions.md R433; log entry 11). -/
def State.memFault (s : State) (m : MemAccess) : Option Exc :=
  if m.offs.any (fun o => (s.translate m o).isIllegal) then
    some (if m.seg = .ss then .ss else .gp)
  else
    match m.offs.findSome? (fun o => (s.translate m o).faultCode) with
    | some code => some (.pf code)
    | none => if s.misaligned m then some .ac else none

/-- The bytes at the accessed offsets, little-endian, 0 at the others (spec/20_memory.md R64). -/
def State.loadBytes (s : State) (m : MemAccess) : List Nat → Nat
  | [] => 0
  | o :: os => s.loadBytes m os + (s.byteAt (s.physical m o)).toNat * 2 ^ (8 * o)

/-- Checks and performs a load. -/
def State.load (s : State) (m : MemAccess) : Except Exc Zmm :=
  match s.memFault m with
  | some e => .error e
  | none => .ok (BitVec.ofNat 512 (s.loadBytes m m.offs))

/-- Writes the bytes of `v` at the offsets below `n`, least significant byte at offset 0. -/
def State.storeBytes (s : State) (m : MemAccess) (v : Zmm) : Nat → State
  | 0 => s
  | n + 1 => (s.storeBytes m v n).setByte (s.physical m n) (lane 8 n v)

/-! ## The r/m operand -/

/-- The byte offsets of a full operand that are accessed: those of unmasked elements under fault suppression, else all
(spec/20_memory.md R71, R72). -/
def fullOffsets (op : Op) (vl : VL) (active : Nat → Bool) : List Nat :=
  if op.info.cls.suppresses then (List.range (op.memBytes vl)).filter (fun o => active (o / op.info.elem))
  else List.range (op.memBytes vl)

/-- The byte offsets of a broadcast operand that are accessed: under fault suppression none when no element is unmasked
(spec/20_memory.md R71). -/
def bcstOffsets (op : Op) (vl : VL) (active : Nat → Bool) : List Nat :=
  if op.info.cls.suppresses && !(List.range (op.memCount vl)).any active then [] else List.range op.info.elem

/-- The access of a memory source. -/
def State.sourceAccess (s : State) (op : Op) (vl : VL) (bcst : Bool) (raw : Raw) (a : Addr) : MemAccess where
  acc  := .read
  seg  := operandSeg raw.rm a
  ea   := s.linear op vl bcst raw.rm a
  size := if bcst then op.info.elem else op.memBytes vl
  offs := if bcst then bcstOffsets op vl (s.active raw.aaa) else fullOffsets op vl (s.active raw.aaa)

/-- The r/m source as a vector: a register, a memory operand (0 where it is not accessed or past its end), or a broadcast
element in every position (spec/30_encoding.md R111). -/
def State.source (s : State) (op : Op) (vl : VL) (raw : Raw) : Except Exc Zmm :=
  match raw.rm.loc with
  | .reg r | .regEr r _ | .regSae r => .ok (s.vec r)
  | .mem a => s.load (s.sourceAccess op vl false raw a)
  | .bcst a =>
    match s.load (s.sourceAccess op vl true raw a) with
    | .error e => .error e
    | .ok v => .ok (replicateElem op.info.elem v)

/-- Step 4 of spec/30_encoding.md R114: reads the source, or raises its memory fault. -/
def withSource (op : Op) (vl : VL) (raw : Raw) (s : State) (rest : Zmm → Out) : Out :=
  match s.source op vl raw with
  | .error e => raise e s
  | .ok x => rest x

/-- The access of a memory destination (VMOVD, VMOVW). -/
def State.destAccess (s : State) (op : Op) (rm : RM) (a : Addr) : MemAccess where
  acc  := .write
  seg  := operandSeg rm a
  ea   := s.linear op .v128 false rm a
  size := op.info.elem
  offs := List.range op.info.elem

end Sys2Proof.Machine
end

