-- ==== Sys2Proof/Machine/Execute.lean ====
section
/-! DEFINITION. The execution sequence of spec/30_encoding.md R114 for each kind of destination; the meanings of the
instructions are these with an element function. -/

namespace Sys2Proof.Machine

/-- An element's result and the flags it signals. -/
abbrev Elem (w : Nat) := BitVec w × Flags

/-- The operands an element function reads: the old destination, the VVVV register, the r/m source. -/
structure Sources where
  dest : Zmm
  src1 : Zmm
  src2 : Zmm

/-- The operands of an instruction once its r/m source is read. -/
def State.sources (s : State) (raw : Raw) (x : Zmm) : Sources := ⟨s.vec raw.reg, s.vec raw.vvvv, x⟩

/-- A vector destination of `n` elements of `w` bits: source, element results and flags, masked write (R112). -/
def execVec (op : Op) (vl : VL) (raw : Raw) (w n : Nat) (elem : Sources → Nat → Elem w) (s : State) : Out :=
  guarded op s <|
    withSource op vl raw s fun x =>
      signal op raw.rm.loc (collectFlags (s.active raw.aaa) (fun j => (elem (s.sources raw x) j).2) n) s fun s' =>
        complete (op.length raw.rm)
          (s'.setVec raw.reg
            (maskedVec w n (s.active raw.aaa) raw.z (s.vec raw.reg) fun j => (elem (s.sources raw x) j).1))

/-- An element function that signals nothing. -/
def silent {w : Nat} (elem : Sources → Nat → BitVec w) (o : Sources) (j : Nat) : Elem w := (elem o j, 0)

/-- The result of a scalar form with a write mask: element 0 under the mask, bits 127:w from the VVVV register
(spec/46_minmax.md R347, R349). -/
def scalarResult (w : Nat) (active z : Bool) (old src1 : Zmm) (r : BitVec w) : Zmm :=
  BitVec.ofNat 512
    ((if active then r else if z then 0 else lane w 0 old).toNat + ((src1.toNat / 2 ^ w) * 2 ^ w) % 2 ^ 128)

/-- A scalar form with a vector destination. -/
def execScalar (op : Op) (raw : Raw) (w : Nat) (elem : Sources → Elem w) (s : State) : Out :=
  guarded op s <|
    withSource op .v128 raw s fun x =>
      signal op raw.rm.loc (when (s.active raw.aaa 0) (elem (s.sources raw x)).2) s fun s' =>
        complete (op.length raw.rm)
          (s'.setVec raw.reg
            (scalarResult w (s.active raw.aaa 0) raw.z (s.vec raw.reg) (s.vec raw.vvvv) (elem (s.sources raw x)).1))

/-- An opmask destination of `n` bits (R113). -/
def execMask (op : Op) (vl : VL) (raw : Raw) (n : Nat) (bitAt : Sources → Nat → Bool) (s : State) : Out :=
  guarded op s <|
    withSource op vl raw s fun x =>
      complete (op.length raw.rm)
        (s.setOpmask (raw.reg.setWidth 3) (maskBits n (s.active raw.aaa) (bitAt (s.sources raw x))))

/-- A scalar compare that writes the status flags. -/
def execCompare (op : Op) (raw : Raw) (cmp : Sources → BitVec 32 × Flags) (s : State) : Out :=
  guarded op s <|
    withSource op .v128 raw s fun x =>
      signal op raw.rm.loc (cmp (s.sources raw x)).2 s fun s' =>
        complete (op.length raw.rm) (s'.setStatus (cmp (s.sources raw x)).1)

/-- A scalar convert to a general register; the result is zero extended to 64 bits (spec/47_saturating_convert.md R388). -/
def execGeneral (op : Op) (raw : Raw) (conv : Sources → Elem 64) (s : State) : Out :=
  guarded op s <|
    withSource op .v128 raw s fun x =>
      signal op raw.rm.loc (conv (s.sources raw x)).2 s fun s' =>
        complete (op.length raw.rm) (s'.setGeneral (raw.reg.setWidth 4) (conv (s.sources raw x)).1)

/-- A load of the low `w` bits, zero extended to 512 (spec/48_partial_copy.md R411, R413). -/
def execLoad (op : Op) (raw : Raw) (w : Nat) (s : State) : Out :=
  guarded op s <|
    withSource op .v128 raw s fun x =>
      complete (op.length raw.rm) (s.setVec raw.reg ((lane w 0 x).setWidth 512))

/-- The state after a store of the low `w` bits of `v` to the r/m operand: memory, or a register whose other bits are
cleared. -/
def State.stored (s : State) (op : Op) (rm : RM) (w : Nat) (v : Zmm) : State :=
  match rm.loc with
  | .reg r | .regEr r _ | .regSae r => s.setVec r ((lane w 0 v).setWidth 512)
  | .mem a | .bcst a => s.storeBytes (s.destAccess op rm a) v (w / 8)

/-- The memory fault of a store, if any. -/
def State.storeFault (s : State) (op : Op) (rm : RM) : Option Exc :=
  match rm.loc with
  | .reg _ | .regEr _ _ | .regSae _ => none
  | .mem a | .bcst a => s.memFault (s.destAccess op rm a)

/-- A store of the low `w` bits of the register (spec/48_partial_copy.md R412, R414). -/
def execStore (op : Op) (raw : Raw) (w : Nat) (s : State) : Out :=
  guarded op s <|
    match s.storeFault op raw.rm with
    | some e => raise e s
    | none => complete (op.length raw.rm) (s.stored op raw.rm w (s.vec raw.reg))

end Sys2Proof.Machine
end

