-- ==== Sys2Proof/Machine/Bf16Arith.lean ====
section
/-! DEFINITION. The BF16 arithmetic instructions (spec/41_bf16_arith.md R200 to R225): DAZ, FTZ, RNE, no flags. -/

namespace Sys2Proof.Machine

/-! ## Element functions on BF16 patterns -/

/-- A one-source BF16 element function. -/
def bf16Unary (f : Nat → Nat) (o : Sources) (j : Nat) : BitVec 16 := BitVec.ofNat 16 (f (lane 16 j o.src2).toNat)

/-- A two-source BF16 element function. -/
def bf16Binary (f : Nat → Nat → Nat) (o : Sources) (j : Nat) : BitVec 16 :=
  BitVec.ofNat 16 (f (lane 16 j o.src1).toNat (lane 16 j o.src2).toNat)

/-- `MAX` with DAZ-ed operands (R207). -/
def maxBf16 (a b : Nat) : Nat :=
  let a := bf16.daz a
  let b := bf16.daz b
  if bf16.isZero a && bf16.isZero b then b
  else if bf16.isNaN a || bf16.isNaN b then b
  else if bf16.key b < bf16.key a then a
  else b

/-- `MIN` with DAZ-ed operands (R208). -/
def minBf16 (a b : Nat) : Nat :=
  let a := bf16.daz a
  let b := bf16.daz b
  if bf16.isZero a && bf16.isZero b then b
  else if bf16.isNaN a || bf16.isNaN b then b
  else if bf16.key a < bf16.key b then a
  else b

/-- `a * 2^n` rounded and flushed; a zero or an infinity is itself. -/
def scaleBy (a : Nat) (n : Int) : Nat :=
  match bf16.value a with
  | .inf _ => a
  | .fin neg mag exp => if mag = 0 then a else bf16.roundFtz (.fin neg mag (exp + n))

/-- `scale_bf16` (R210). -/
def scalefBf16 (a b : Nat) : Nat :=
  let a := bf16.daz a
  let b := bf16.daz b
  if bf16.isNaN a then bf16.quiet a
  else if bf16.isNaN b then bf16.quiet b
  else
    match bf16.value b with
    | .inf false => if bf16.isZero a then bf16.indefinite else bf16.inf (bf16.sign a)
    | .inf true => if bf16.isInf a then bf16.indefinite else bf16.zero (bf16.sign a)
    | .fin neg mag exp => scaleBy a (floorFinite neg mag exp)

/-- Which operands of an FMA are multiplied and which is added (R211). -/
inductive FmaOrder where
  | o132
  | o213
  | o231
deriving DecidableEq, Repr

/-- Fused multiply-add of DEST, SRC2, SRC3; the NaN is the first in that order (R211, R202). -/
def fmaBf16 (order : FmaOrder) (negProd negAdd : Bool) (dest src2 src3 : Nat) : Nat :=
  match bf16.firstNaN [dest, src2, src3] with
  | some n => n
  | none =>
    match order with
    | .o132 => bf16.fmaCore negProd negAdd dest src3 src2
    | .o213 => bf16.fmaCore negProd negAdd src2 dest src3
    | .o231 => bf16.fmaCore negProd negAdd src2 src3 dest

/-- The element function of an FMA form. -/
def bf16Fma (order : FmaOrder) (negProd negAdd : Bool) (o : Sources) (j : Nat) : BitVec 16 :=
  BitVec.ofNat 16
    (fmaBf16 order negProd negAdd (lane 16 j o.dest).toNat (lane 16 j o.src1).toNat (lane 16 j o.src2).toNat)

/-! ## The instructions -/

/-- VADDBF16 (spec/41_bf16_arith.md R203). -/
def execVaddbf16 (vl : VL) (o : VecOp3) (s : State) : Out :=
  execVec .vaddbf16 vl o.raw 16 (vl.bits / 16) (silent (bf16Binary bf16.add)) s

/-- VSUBBF16 (spec/41_bf16_arith.md R204). -/
def execVsubbf16 (vl : VL) (o : VecOp3) (s : State) : Out :=
  execVec .vsubbf16 vl o.raw 16 (vl.bits / 16) (silent (bf16Binary bf16.sub)) s

/-- VMULBF16 (spec/41_bf16_arith.md R205). -/
def execVmulbf16 (vl : VL) (o : VecOp3) (s : State) : Out :=
  execVec .vmulbf16 vl o.raw 16 (vl.bits / 16) (silent (bf16Binary bf16.mul)) s

/-- VDIVBF16 (spec/41_bf16_arith.md R206). -/
def execVdivbf16 (vl : VL) (o : VecOp3) (s : State) : Out :=
  execVec .vdivbf16 vl o.raw 16 (vl.bits / 16) (silent (bf16Binary bf16.div)) s

/-- VMAXBF16 (spec/41_bf16_arith.md R207). -/
def execVmaxbf16 (vl : VL) (o : VecOp3) (s : State) : Out :=
  execVec .vmaxbf16 vl o.raw 16 (vl.bits / 16) (silent (bf16Binary maxBf16)) s

/-- VMINBF16 (spec/41_bf16_arith.md R208). -/
def execVminbf16 (vl : VL) (o : VecOp3) (s : State) : Out :=
  execVec .vminbf16 vl o.raw 16 (vl.bits / 16) (silent (bf16Binary minBf16)) s

/-- VSCALEFBF16 (spec/41_bf16_arith.md R210). -/
def execVscalefbf16 (vl : VL) (o : VecOp3) (s : State) : Out :=
  execVec .vscalefbf16 vl o.raw 16 (vl.bits / 16) (silent (bf16Binary scalefBf16)) s

/-- VSQRTBF16 (spec/41_bf16_arith.md R209). -/
def execVsqrtbf16 (vl : VL) (o : VecOp2) (s : State) : Out :=
  execVec .vsqrtbf16 vl o.raw 16 (vl.bits / 16) (silent (bf16Unary bf16.sqrt)) s

/-- VFMADD132BF16 (spec/41_bf16_arith.md R212). -/
def execVfmadd132bf16 (vl : VL) (o : VecOp3) (s : State) : Out :=
  execVec .vfmadd132bf16 vl o.raw 16 (vl.bits / 16) (silent (bf16Fma .o132 false false)) s

/-- VFMADD213BF16 (spec/41_bf16_arith.md R213). -/
def execVfmadd213bf16 (vl : VL) (o : VecOp3) (s : State) : Out :=
  execVec .vfmadd213bf16 vl o.raw 16 (vl.bits / 16) (silent (bf16Fma .o213 false false)) s

/-- VFMADD231BF16 (spec/41_bf16_arith.md R214). -/
def execVfmadd231bf16 (vl : VL) (o : VecOp3) (s : State) : Out :=
  execVec .vfmadd231bf16 vl o.raw 16 (vl.bits / 16) (silent (bf16Fma .o231 false false)) s

/-- VFMSUB132BF16 (spec/41_bf16_arith.md R215). -/
def execVfmsub132bf16 (vl : VL) (o : VecOp3) (s : State) : Out :=
  execVec .vfmsub132bf16 vl o.raw 16 (vl.bits / 16) (silent (bf16Fma .o132 false true)) s

/-- VFMSUB213BF16 (spec/41_bf16_arith.md R216). -/
def execVfmsub213bf16 (vl : VL) (o : VecOp3) (s : State) : Out :=
  execVec .vfmsub213bf16 vl o.raw 16 (vl.bits / 16) (silent (bf16Fma .o213 false true)) s

/-- VFMSUB231BF16 (spec/41_bf16_arith.md R217). -/
def execVfmsub231bf16 (vl : VL) (o : VecOp3) (s : State) : Out :=
  execVec .vfmsub231bf16 vl o.raw 16 (vl.bits / 16) (silent (bf16Fma .o231 false true)) s

/-- VFNMADD132BF16 (spec/41_bf16_arith.md R218). -/
def execVfnmadd132bf16 (vl : VL) (o : VecOp3) (s : State) : Out :=
  execVec .vfnmadd132bf16 vl o.raw 16 (vl.bits / 16) (silent (bf16Fma .o132 true false)) s

/-- VFNMADD213BF16 (spec/41_bf16_arith.md R219). -/
def execVfnmadd213bf16 (vl : VL) (o : VecOp3) (s : State) : Out :=
  execVec .vfnmadd213bf16 vl o.raw 16 (vl.bits / 16) (silent (bf16Fma .o213 true false)) s

/-- VFNMADD231BF16 (spec/41_bf16_arith.md R220). -/
def execVfnmadd231bf16 (vl : VL) (o : VecOp3) (s : State) : Out :=
  execVec .vfnmadd231bf16 vl o.raw 16 (vl.bits / 16) (silent (bf16Fma .o231 true false)) s

/-- VFNMSUB132BF16 (spec/41_bf16_arith.md R221). -/
def execVfnmsub132bf16 (vl : VL) (o : VecOp3) (s : State) : Out :=
  execVec .vfnmsub132bf16 vl o.raw 16 (vl.bits / 16) (silent (bf16Fma .o132 true true)) s

/-- VFNMSUB213BF16 (spec/41_bf16_arith.md R222). -/
def execVfnmsub213bf16 (vl : VL) (o : VecOp3) (s : State) : Out :=
  execVec .vfnmsub213bf16 vl o.raw 16 (vl.bits / 16) (silent (bf16Fma .o213 true true)) s

/-- VFNMSUB231BF16 (spec/41_bf16_arith.md R223). -/
def execVfnmsub231bf16 (vl : VL) (o : VecOp3) (s : State) : Out :=
  execVec .vfnmsub231bf16 vl o.raw 16 (vl.bits / 16) (silent (bf16Fma .o231 true true)) s

end Sys2Proof.Machine
end

