-- ==== Sys2Proof/Machine/Bf16Misc.lean ====
section
/-! DEFINITION. The BF16 compare, classify, exponent, mantissa, approximation, reduce and round instructions
(spec/42_bf16_misc.md R230 to R241): DAZ, no flags. -/

namespace Sys2Proof.Machine

/-! ## Compare and classify -/

/-- The truth values of the predicates, `p` modulo 16 (R240). -/
def predicate (p : Nat) (r : Rel) : Bool :=
  match p % 16 with
  | 0 => r == .eq
  | 1 => r == .lt
  | 2 => r == .lt || r == .eq
  | 3 => r == .un
  | 4 => r != .eq
  | 5 => r != .lt
  | 6 => r == .gt || r == .un
  | 7 => r != .un
  | 8 => r == .eq || r == .un
  | 9 => r == .lt || r == .un
  | 10 => r != .gt
  | 11 => false
  | 12 => r == .lt || r == .gt
  | 13 => r == .eq || r == .gt
  | 14 => r == .gt
  | _ => true

/-- `Rel` of DAZ-ed BF16 patterns (R231). -/
def relBf16 (a b : Nat) : Rel := bf16.rel (bf16.daz a) (bf16.daz b)

/-- The result bit of VCMPBF16; only imm8[4:0] is read. -/
def cmpBit (imm : BitVec 8) (o : Sources) (j : Nat) : Bool :=
  predicate (imm.toNat % 32) (relBf16 (lane 16 j o.src1).toNat (lane 16 j o.src2).toNat)

/-- The status flags of VCOMISBF16: operand 1 is the `ModRM.reg` register (R232). -/
def comisBf16 (o : Sources) : BitVec 32 × Flags :=
  ((relBf16 (lane 16 0 o.dest).toNat (lane 16 0 o.src2).toNat).comisStatus, 0)

/-- `class(x, imm8)` of R233; the denormal category is empty because of DAZ. -/
def fpclassBf16 (imm : BitVec 8) (x : Nat) : Bool :=
  let x := bf16.daz x
  let neg := bf16.sign x
  (imm.getLsbD 0 && bf16.isQNaN x) ||
  (imm.getLsbD 1 && bf16.isZero x && !neg) ||
  (imm.getLsbD 2 && bf16.isZero x && neg) ||
  (imm.getLsbD 3 && bf16.isInf x && !neg) ||
  (imm.getLsbD 4 && bf16.isInf x && neg) ||
  (imm.getLsbD 5 && bf16.isDenormal x) ||
  (imm.getLsbD 6 && neg && !bf16.isZero x && !bf16.isInf x && !bf16.isNaN x) ||
  (imm.getLsbD 7 && bf16.isSNaN x)

/-- The result bit of VFPCLASSBF16. -/
def fpclassBit (imm : BitVec 8) (o : Sources) (j : Nat) : Bool := fpclassBf16 imm (lane 16 j o.src2).toNat

/-! ## Exponent and mantissa -/

/-- `getexp_bf16` (R234). -/
def getexpBf16 (x : Nat) : Nat :=
  if bf16.isNaN x then bf16.quiet x
  else if bf16.isInf x then bf16.inf false
  else if bf16.exp x = 0 then bf16.inf true
  else if bf16.exp x < 127 then bf16.roundFtz (.fin true (127 - bf16.exp x) 0)
  else bf16.roundFtz (.fin false (bf16.exp x - 127) 0)

/-- The exponent field of a mantissa normalized to an interval (R235); `e` is the exponent field of the source, which is odd
exactly when the unbiased exponent is even. -/
def getmantExp (interv e frac : Nat) : Nat :=
  match interv with
  | 0 => 127
  | 1 => if e % 2 = 0 then 126 else 127
  | 2 => 126
  | _ => if frac / 64 = 1 then 126 else 127

/-- `getmant_bf16` (R235): the sign control is imm8[3:2], the interval imm8[1:0]. -/
def getmantBf16 (imm : BitVec 8) (x : Nat) : Nat :=
  let x := bf16.daz x
  let forcePos := imm.getLsbD 2
  let negInvalid := imm.getLsbD 3
  let neg := bf16.sign x
  if bf16.isNaN x then bf16.quiet x
  else if bf16.isZero x then (if neg then bf16.one (!forcePos) else bf16.one false)
  else if neg && negInvalid then bf16.indefinite
  else if bf16.isInf x then (if neg then bf16.one (!forcePos) else bf16.one false)
  else bf16.pack (!forcePos && neg) (getmantExp (imm.toNat % 4) (bf16.exp x) (bf16.frac x)) (bf16.frac x)

/-! ## Approximations -/

/-- `|r * x - 1| < 2^-8 + 2^-14` in magnitudes: the error bound of VRCPBF16 for positive finite values `x` and `r`. -/
def rcpWithin (mx : Nat) (ex : Int) (mr : Nat) (er : Int) : Bool :=
  let p := mx * mr
  let e := ex + er
  -- p * 2^e against 1 - 65/2^14 and 1 + 65/2^14
  let lhs := if 0 ≤ e then p * 2 ^ e.toNat * 2 ^ 14 else p * 2 ^ 14
  let one := if 0 ≤ e then 1 else 2 ^ (-e).toNat
  decide ((2 ^ 14 - 65) * one < lhs) && decide (lhs < (2 ^ 14 + 65) * one)

/-- `r` is an admissible value of `Rcp14_bf16(x)`: normal, of the sign of `x`, within the bound (R236). -/
def rcpAdmissible (x r : Nat) : Bool :=
  bf16.exp r != 0 && bf16.exp r != bf16.expOnes && bf16.sign r == bf16.sign x &&
    rcpWithin (bf16.mag x) (bf16.scale x) (bf16.mag r) (bf16.scale r)

/-- `RNE(1/x)`, which the rule names as an admissible instance. -/
def rcpExact (x : Nat) : Nat := bf16.div (bf16.one false) x

/-- `Rcp14_bf16` (R236): the implementation's free value where it is admissible, else the correctly rounded one
(log entry 23). -/
def rcp14 (x : Nat) : Nat :=
  let r := (Config.rcp14Free (BitVec.ofNat 16 x)).toNat
  if rcpAdmissible x r then r else rcpExact x

/-- `Rcp` (R236). A power of two has an exact reciprocal, which is normal unless it is below 2^-126. -/
def rcpBf16 (x : Nat) : Nat :=
  let x := bf16.daz x
  let neg := bf16.sign x
  if bf16.isNaN x then bf16.quiet x
  else if bf16.isZero x then bf16.inf neg
  else if bf16.isInf x then bf16.zero neg
  else if bf16.frac x = 0 then (if 253 < bf16.exp x then bf16.zero neg else bf16.pack neg (254 - bf16.exp x) 0)
  else if 252 < bf16.exp x then bf16.zero neg
  else rcp14 x

/-- `(1 - b)^2 < r^2 * x < (1 + b)^2` with `b = 2^-8 + 2^-14`: the error bound of VRSQRTBF16. -/
def rsqrtWithin (mx : Nat) (ex : Int) (mr : Nat) (er : Int) : Bool :=
  let p := mx * mr * mr
  let e := ex + 2 * er
  let lhs := if 0 ≤ e then p * 2 ^ e.toNat * 2 ^ 28 else p * 2 ^ 28
  let one := if 0 ≤ e then 1 else 2 ^ (-e).toNat
  decide ((2 ^ 14 - 65) * (2 ^ 14 - 65) * one < lhs) && decide (lhs < (2 ^ 14 + 65) * (2 ^ 14 + 65) * one)

/-- `r` is an admissible value of `Rsqrt14_bf16(x)` (R239). -/
def rsqrtAdmissible (x r : Nat) : Bool :=
  bf16.exp r != 0 && bf16.exp r != bf16.expOnes && !bf16.sign r &&
    rsqrtWithin (bf16.mag x) (bf16.scale x) (bf16.mag r) (bf16.scale r)

/-- `RNE(1/sqrt(x))` for a positive normal `x`: the root of the quotient, both to many bits. -/
def rsqrtExact (x : Nat) : Nat :=
  match (bf16.value (bf16.one false)).div 64 (bf16.value x) with
  | some q => bf16.finish (q.sqrt 32)
  | none => bf16.indefinite

/-- `Rsqrt14_bf16` (R239): the implementation's free value where it is admissible, else the correctly rounded one
(log entry 23). -/
def rsqrt14 (x : Nat) : Nat :=
  let r := (Config.rsqrt14Free (BitVec.ofNat 16 x)).toNat
  if rsqrtAdmissible x r then r else rsqrtExact x

/-- `Rsqrt` (R239); 2^(-2n) has exponent field 127 - 2n, which is odd. -/
def rsqrtBf16 (x : Nat) : Nat :=
  let x := bf16.daz x
  let neg := bf16.sign x
  if bf16.isNaN x then bf16.quiet x
  else if bf16.isZero x then bf16.inf neg
  else if neg then bf16.indefinite
  else if bf16.isInf x then bf16.zero false
  else if bf16.frac x = 0 && bf16.exp x % 2 = 1 then bf16.pack false ((381 - bf16.exp x) / 2) 0
  else rsqrt14 x

/-! ## Reduce and round -/

/-- `2^m * x` rounded to an integer, ties to even, for a finite `x` (R237, R238): `none` when `2^m * x` is an integer. -/
def scaledInteger (m : Nat) (neg : Bool) (mag : Nat) (exp : Int) : Option Nat :=
  if 0 ≤ exp + (m : Int) then none else some (roundShift .rne neg mag (-(exp + (m : Int))).toNat)

/-- `reduce_bf16_ne` (R237); M is imm8[7:4]. -/
def reduceBf16 (imm : BitVec 8) (x : Nat) : Nat :=
  if bf16.isNaN x then bf16.quiet x
  else
    match bf16.dazValue x with
    | .inf _ => bf16.zero false
    | .fin neg mag exp =>
      match scaledInteger (imm.toNat / 16) neg mag exp with
      | none => bf16.zero false
      | some q =>
        match addFinite neg mag exp (!neg) q (-((imm.toNat / 16 : Nat) : Int)) with
        | .fin n m e => if m = 0 then bf16.zero false else bf16.roundFtz (.fin n m e)
        | .inf n => bf16.inf n

/-- `round_bf16_to_integer_ne` (R238). -/
def rndscaleBf16 (imm : BitVec 8) (x : Nat) : Nat :=
  if bf16.isNaN x then bf16.quiet x
  else
    match bf16.dazValue x with
    | .inf n => bf16.inf n
    | .fin neg mag exp =>
      match scaledInteger (imm.toNat / 16) neg mag exp with
      | none => bf16.daz x
      | some q => bf16.roundFtz (.fin neg q (-((imm.toNat / 16 : Nat) : Int)))

/-! ## The instructions -/

/-- VCMPBF16 (spec/42_bf16_misc.md R231). -/
def execVcmpbf16 (vl : VL) (o : MaskOp3) (imm : BitVec 8) (s : State) : Out :=
  execMask .vcmpbf16 vl (o.raw imm) (vl.bits / 16) (cmpBit imm) s

/-- VCOMISBF16 (spec/42_bf16_misc.md R232). -/
def execVcomisbf16 (o : RegRm) (s : State) : Out :=
  execCompare .vcomisbf16 o.raw comisBf16 s

/-- VFPCLASSBF16 (spec/42_bf16_misc.md R233). -/
def execVfpclassbf16 (vl : VL) (o : MaskOp2) (imm : BitVec 8) (s : State) : Out :=
  execMask .vfpclassbf16 vl (o.raw imm) (vl.bits / 16) (fpclassBit imm) s

/-- VGETEXPBF16 (spec/42_bf16_misc.md R234). -/
def execVgetexpbf16 (vl : VL) (o : VecOp2) (s : State) : Out :=
  execVec .vgetexpbf16 vl o.raw 16 (vl.bits / 16) (silent (bf16Unary getexpBf16)) s

/-- VGETMANTBF16 (spec/42_bf16_misc.md R235). -/
def execVgetmantbf16 (vl : VL) (o : VecOp2) (imm : BitVec 8) (s : State) : Out :=
  execVec .vgetmantbf16 vl (o.raw imm) 16 (vl.bits / 16) (silent (bf16Unary (getmantBf16 imm))) s

/-- VRCPBF16 (spec/42_bf16_misc.md R236). -/
def execVrcpbf16 (vl : VL) (o : VecOp2) (s : State) : Out :=
  execVec .vrcpbf16 vl o.raw 16 (vl.bits / 16) (silent (bf16Unary rcpBf16)) s

/-- VREDUCEBF16 (spec/42_bf16_misc.md R237). -/
def execVreducebf16 (vl : VL) (o : VecOp2) (imm : BitVec 8) (s : State) : Out :=
  execVec .vreducebf16 vl (o.raw imm) 16 (vl.bits / 16) (silent (bf16Unary (reduceBf16 imm))) s

/-- VRNDSCALEBF16 (spec/42_bf16_misc.md R238). -/
def execVrndscalebf16 (vl : VL) (o : VecOp2) (imm : BitVec 8) (s : State) : Out :=
  execVec .vrndscalebf16 vl (o.raw imm) 16 (vl.bits / 16) (silent (bf16Unary (rndscaleBf16 imm))) s

/-- VRSQRTBF16 (spec/42_bf16_misc.md R239). -/
def execVrsqrtbf16 (vl : VL) (o : VecOp2) (s : State) : Out :=
  execVec .vrsqrtbf16 vl o.raw 16 (vl.bits / 16) (silent (bf16Unary rsqrtBf16)) s

end Sys2Proof.Machine
end

