-- ==== Sys2Proof/Machine/Compare.lean ====
section
/-! DEFINITION. The scalar compares with enhanced EFLAGS (spec/43_compare_scalar.md R260 to R271). -/

namespace Sys2Proof.Machine

/-! ## The comparison -/

/-- The flags of `CompareX` for the operands after DAZ (R261). -/
def comxFlags (f : Fmt) (signalQnan : Bool) (a b : Nat) : Flags :=
  if f.isSNaN a || f.isSNaN b || ((f.isNaN a || f.isNaN b) && signalQnan) then flagIE
  else if !(f.isNaN a || f.isNaN b) && (f.isDenormal a || f.isDenormal b) then flagDE
  else 0

/-- `CompareX` on element 0 of operand 1 (`ModRM.reg`) and operand 2: status flags and MXCSR flags (R261, R262). -/
def comx (f : Fmt) (w : Nat) (daz signalQnan : Bool) (o : Sources) : BitVec 32 × Flags :=
  let a := if daz then f.daz (lane w 0 o.dest).toNat else (lane w 0 o.dest).toNat
  let b := if daz then f.daz (lane w 0 o.src2).toNat else (lane w 0 o.src2).toNat
  ((f.rel a b).comxStatus, comxFlags f signalQnan a b)

/-! ## The instructions -/

/-- VCOMXSD (spec/43_compare_scalar.md R264). -/
def execVcomxsd (o : RegRm) (s : State) : Out :=
  execCompare .vcomxsd o.raw (comx fp64 64 s.daz true) s

/-- VCOMXSH (spec/43_compare_scalar.md R265). -/
def execVcomxsh (o : RegRm) (s : State) : Out :=
  execCompare .vcomxsh o.raw (comx fp16 16 false true) s

/-- VCOMXSS (spec/43_compare_scalar.md R266). -/
def execVcomxss (o : RegRm) (s : State) : Out :=
  execCompare .vcomxss o.raw (comx fp32 32 s.daz true) s

/-- VUCOMXSD (spec/43_compare_scalar.md R267). -/
def execVucomxsd (o : RegRm) (s : State) : Out :=
  execCompare .vucomxsd o.raw (comx fp64 64 s.daz false) s

/-- VUCOMXSH (spec/43_compare_scalar.md R268). -/
def execVucomxsh (o : RegRm) (s : State) : Out :=
  execCompare .vucomxsh o.raw (comx fp16 16 false false) s

/-- VUCOMXSS (spec/43_compare_scalar.md R269). -/
def execVucomxss (o : RegRm) (s : State) : Out :=
  execCompare .vucomxss o.raw (comx fp32 32 s.daz false) s

end Sys2Proof.Machine
end

