-- ==== Sys2Proof/Machine/ConvertFp8.lean ====
section
/-! DEFINITION. The converts between FP16 and FP8, and from two FP32 vectors to FP16 (spec/40_numerics_helpers.md R140 to
R147, spec/44_convert_fp8.md R280 to R297). Patterns are numbers. -/

namespace Sys2Proof.Machine

/-! ## The converters -/

/-- The FP8 formats a mnemonic names (spec/40_numerics_helpers.md R143). -/
inductive Fp8 where
  | bf8
  | hf8
deriving DecidableEq, Repr

/-- The format. -/
def Fp8.fmt : Fp8 → Fmt
  | .bf8 => Machine.bf8
  | .hf8 => Machine.hf8

/-- `convert_hf8_to_fp16` (spec/40_numerics_helpers.md R140). -/
def hf8ToFp16 (x : Nat) : Nat :=
  let s := x / 128 * 2 ^ 15
  let e := x / 8 % 16
  let m := x % 8
  if e = 0 ∧ m ≠ 0 then
    let lz := if 3 < m then 0 else if 1 < m then 1 else 2
    (e + 8 - lz) * 2 ^ 10 + (m * 2 ^ (lz + 1)) % 8 * 2 ^ 7 + s
  else if e = 0 ∧ m = 0 then s
  else if e = 15 ∧ m = 7 then 31 * 2 ^ 10 + m * 2 ^ 7 + s
  else (e + 8) * 2 ^ 10 + m * 2 ^ 7 + s

/-- A converted byte and whether the helper's overflow path produced it. -/
structure Fp8Result where
  byte     : Nat
  overflow : Bool
deriving DecidableEq, Repr

/-- The byte of BF8 infinities and NaNs of an FP16 pattern (spec/40_numerics_helpers.md R141, R145). -/
def bf8Special (x : Nat) (sat : Bool) : Nat :=
  if fp16.isInf x then (if sat then x / 2 ^ 15 * 128 + 0x7B else x / 256) else x / 256 ||| 2

/-- The BF8 byte of the 16-bit sum `temp` (spec/40_numerics_helpers.md R141, R145). -/
def bf8OfSum (temp : Nat) (sat : Bool) : Fp8Result :=
  if temp / 256 % 128 = 0x7C then ⟨if sat then temp / 2 ^ 15 * 128 + 0x7B else temp / 256, true⟩
  else ⟨temp / 256, false⟩

/-- `convert_fp16_to_bf8` (spec/40_numerics_helpers.md R141). -/
def fp16ToBf8 (x : Nat) (sat : Bool) : Fp8Result :=
  if fp16.isInf x || fp16.isNaN x then ⟨bf8Special x sat, false⟩
  else bf8OfSum ((x + 0x7F + x / 256 % 2) % 2 ^ 16) sat

/-- `convert_fp16_to_bf8_bias` (spec/40_numerics_helpers.md R145). -/
def fp16ToBf8Bias (x b : Nat) (sat : Bool) : Fp8Result :=
  if fp16.isInf x || fp16.isNaN x then ⟨bf8Special x sat, false⟩
  else bf8OfSum ((x + b) % 2 ^ 16) sat

/-- An HF8 byte from sign, exponent and fraction. -/
def hf8Byte (x e m : Nat) : Nat := x / 2 ^ 15 * 128 + e * 8 + m

/-- The HF8 byte of an infinity or an overflow: E4M3_MAX or NaN (spec/40_numerics_helpers.md R142, R144). -/
def hf8Over (x : Nat) (sat : Bool) : Nat := hf8Byte x 15 (if sat then 6 else 7)

/-- The denormal branch of `convert_fp16_to_hf8`: exponent and fraction of the result (spec/40_numerics_helpers.md R142). -/
def hf8Underflow (e m : Nat) : Nat × Nat :=
  let m1 := (m ||| 0x400) / 2 ^ (9 - e) ||| (m % 128 + 0x7F) / 128
  let m2 := m1 + 0x3F + m1 / 128 % 2
  (m2 / 1024, m2 / 128 % 8)

/-- `convert_fp16_to_hf8` (spec/40_numerics_helpers.md R142). -/
def fp16ToHf8 (x : Nat) (sat : Bool) : Fp8Result :=
  let e := fp16.exp x
  let m := fp16.frac x
  if fp16.isInf x then ⟨hf8Over x sat, false⟩
  else if fp16.isNaN x then ⟨hf8Byte x 15 7, false⟩
  else if 23 < e ∨ (e = 23 ∧ 0x340 < m) then ⟨hf8Over x sat, true⟩
  else if e = 0 ∧ m = 0 then ⟨hf8Byte x 0 0, false⟩
  else if e ≤ 8 then ⟨hf8Byte x (hf8Underflow e m).1 (hf8Underflow e m).2, false⟩
  else
    let y := x + 0x3F + m / 128 % 2
    ⟨hf8Byte x (fp16.exp y - 8) (fp16.frac y / 128), false⟩

/-- `convert_fp16_to_hf8_bias` (spec/40_numerics_helpers.md R144). -/
def fp16ToHf8Bias (x b : Nat) (sat : Bool) : Fp8Result :=
  let e := fp16.exp x
  let m := fp16.frac x
  let xb := x + b / 2
  let eb := fp16.exp xb
  let mb := fp16.frac xb
  if fp16.isInf x then ⟨hf8Over x sat, false⟩
  else if fp16.isNaN x then ⟨hf8Byte x 15 7, false⟩
  else if 23 < eb ∨ (eb = 23 ∧ 0x380 ≤ mb) then ⟨hf8Over x sat, true⟩
  else if e = 0 then ⟨hf8Byte x 0 ((m + b * 128) / 2 ^ 15), false⟩
  else if eb ≤ 8 then
    let m1 := ((m ||| 0x400) + b * 2 ^ (8 - e)) / 2 ^ (9 - e)
    ⟨hf8Byte x (m1 / 1024) (m1 / 128 % 8), false⟩
  else ⟨hf8Byte x (eb - 8) (mb / 128), false⟩

/-- `convert_fp16_to_fp8` (spec/40_numerics_helpers.md R143). -/
def fp16ToFp8 (x : Nat) (y : Fp8) (sat : Bool) : Fp8Result :=
  match y with
  | .bf8 => fp16ToBf8 x sat
  | .hf8 => fp16ToHf8 x sat

/-- `convert_fp16_to_fp8_bias` (spec/40_numerics_helpers.md R146). -/
def fp16ToFp8Bias (x b : Nat) (y : Fp8) (sat : Bool) : Fp8Result :=
  match y with
  | .bf8 => fp16ToBf8Bias x b sat
  | .hf8 => fp16ToHf8Bias x b sat

/-- Two magnitudes are equal. -/
def sameMagnitude (m1 : Nat) (e1 : Int) (m2 : Nat) (e2 : Int) : Bool :=
  if e1 ≤ e2 then m1 == m2 * 2 ^ (e2 - e1).toNat else m1 * 2 ^ (e1 - e2).toNat == m2

/-- The values of an FP16 pattern and an FP8 pattern of the same sign are equal. -/
def fp8Exact (y : Fp8) (x byte : Nat) : Bool :=
  sameMagnitude (fp16.mag x) (fp16.scale x) (y.fmt.mag byte) (y.fmt.scale byte)

/-- `Fp8Flags` (R281). -/
def fp8Flags (y : Fp8) (x : Nat) (r : Fp8Result) : Flags :=
  if fp16.isSNaN x then flagIE
  else if fp16.isNaN x || fp16.isInf x then 0
  else if r.overflow then when (fp16.isDenormal x) flagDE ||| flagOE ||| flagPE
  else if fp8Exact y x r.byte then when (fp16.isDenormal x) flagDE
  else when (fp16.isDenormal x) flagDE ||| flagPE ||| when (y.fmt.exp r.byte == 0) flagUE

/-- A converted element with its flags. -/
def fp8Out (y : Fp8) (x : Nat) (r : Fp8Result) : Elem 8 := (BitVec.ofNat 8 r.byte, fp8Flags y x r)

/-- The element of a one-source convert (R286 to R289). -/
def fp8Elem (y : Fp8) (sat : Bool) (o : Sources) (j : Nat) : Elem 8 :=
  let x := (lane 16 j o.src2).toNat
  fp8Out y x (fp16ToFp8 x y sat)

/-- The element of a two-source convert: the low `half` elements come from the second source (R282 to R285). -/
def fp8Pair (half : Nat) (y : Fp8) (sat : Bool) (o : Sources) (j : Nat) : Elem 8 :=
  let x := if j < half then (lane 16 j o.src2).toNat else (lane 16 (j - half) o.src1).toNat
  fp8Out y x (fp16ToFp8 x y sat)

/-- The element of a bias convert; the bias is byte `2j` of the first source (R296). -/
def fp8Bias (y : Fp8) (sat : Bool) (o : Sources) (j : Nat) : Elem 8 :=
  let x := (lane 16 j o.src2).toNat
  fp8Out y x (fp16ToFp8Bias x (lane 8 (2 * j) o.src1).toNat y sat)

/-- The element of VCVTHF82PH (R295). -/
def hf8ToFp16Elem (o : Sources) (j : Nat) : Elem 16 :=
  let x := (lane 8 j o.src2).toNat
  (BitVec.ofNat 16 (hf8ToFp16 x), when (hf8.isDenormal x) flagDE)

/-! ## FP32 to FP16 -/

/-- A nonzero value rounded to `f` with gradual underflow and masked responses (spec/40_numerics_helpers.md R147): pattern
and flags OE, UE, PE. -/
def Fmt.roundGradual (f : Fmt) (rm : RoundMode) (neg : Bool) (mag : Nat) (exp : Int) : Nat × Flags :=
  let lo := 1 - (f.bias : Int) - (f.fbits : Int)
  let sh := max (Nat.log2 mag + 1 - (f.fbits + 1)) (lo - exp).toNat
  let q := roundShift rm neg mag sh
  let e := exp + (sh : Int)
  let inexact := mag % 2 ^ sh != 0
  let u := roundPrec rm (f.fbits + 1) neg mag exp
  let tiny := topExp u.1 u.2 < 1 - (f.bias : Int)
  if q = 0 then (f.zero neg, when inexact (flagUE ||| flagPE))
  else if (f.bias : Int) < topExp q e then
    (if rm = .rne || (rm = .rup && !neg) || (rm = .rdn && neg) then f.inf neg else f.maxFinite neg, flagOE ||| flagPE)
  else if topExp q e < 1 - (f.bias : Int) then
    (f.pack neg 0 (q * 2 ^ (e - lo).toNat), when inexact (when tiny flagUE ||| flagPE))
  else (f.normal neg q e, when inexact (when tiny flagUE ||| flagPE))

/-- `convert_fp32_to_fp16` (spec/40_numerics_helpers.md R147). -/
def fp32ToFp16 (rm : RoundMode) (daz : Bool) (x : Nat) : Nat × Flags :=
  let sign := fp32.sign x
  if fp32.isInf x then (fp16.inf sign, 0)
  else if fp32.isNaN x then
    (fp16.pack sign 31 ((fp32.frac x ||| 2 ^ 22) / 2 ^ 13), when (fp32.isSNaN x) flagIE)
  else if fp32.isZero x || (daz && fp32.isDenormal x) then (fp16.zero sign, 0)
  else
    let r := fp16.roundGradual rm sign (fp32.mag x) (fp32.scale x)
    (r.1, when (fp32.isDenormal x) flagDE ||| r.2)

/-- The element of VCVT2PS2PHX: the low `half` elements come from the second source (R290). -/
def fp16Pair (half : Nat) (rm : RoundMode) (daz : Bool) (o : Sources) (j : Nat) : Elem 16 :=
  let x := if j < half then (lane 32 j o.src2).toNat else (lane 32 (j - half) o.src1).toNat
  (BitVec.ofNat 16 (fp32ToFp16 rm daz x).1, (fp32ToFp16 rm daz x).2)

/-! ## The instructions -/

/-- VCVT2PH2BF8 (spec/44_convert_fp8.md R282). -/
def execVcvt2ph2bf8 (vl : VL) (o : VecOp3) (s : State) : Out :=
  execVec .vcvt2ph2bf8 vl o.raw 8 (vl.bits / 8) (fp8Pair (vl.bits / 16) .bf8 false) s

/-- VCVT2PH2BF8S (spec/44_convert_fp8.md R283). -/
def execVcvt2ph2bf8s (vl : VL) (o : VecOp3) (s : State) : Out :=
  execVec .vcvt2ph2bf8s vl o.raw 8 (vl.bits / 8) (fp8Pair (vl.bits / 16) .bf8 true) s

/-- VCVT2PH2HF8 (spec/44_convert_fp8.md R284). -/
def execVcvt2ph2hf8 (vl : VL) (o : VecOp3) (s : State) : Out :=
  execVec .vcvt2ph2hf8 vl o.raw 8 (vl.bits / 8) (fp8Pair (vl.bits / 16) .hf8 false) s

/-- VCVT2PH2HF8S (spec/44_convert_fp8.md R285). -/
def execVcvt2ph2hf8s (vl : VL) (o : VecOp3) (s : State) : Out :=
  execVec .vcvt2ph2hf8s vl o.raw 8 (vl.bits / 8) (fp8Pair (vl.bits / 16) .hf8 true) s

/-- VCVTPH2BF8 (spec/44_convert_fp8.md R286). -/
def execVcvtph2bf8 (vl : VL) (o : VecOp2) (s : State) : Out :=
  execVec .vcvtph2bf8 vl o.raw 8 (vl.bits / 16) (fp8Elem .bf8 false) s

/-- VCVTPH2BF8S (spec/44_convert_fp8.md R287). -/
def execVcvtph2bf8s (vl : VL) (o : VecOp2) (s : State) : Out :=
  execVec .vcvtph2bf8s vl o.raw 8 (vl.bits / 16) (fp8Elem .bf8 true) s

/-- VCVTPH2HF8 (spec/44_convert_fp8.md R288). -/
def execVcvtph2hf8 (vl : VL) (o : VecOp2) (s : State) : Out :=
  execVec .vcvtph2hf8 vl o.raw 8 (vl.bits / 16) (fp8Elem .hf8 false) s

/-- VCVTPH2HF8S (spec/44_convert_fp8.md R289). -/
def execVcvtph2hf8s (vl : VL) (o : VecOp2) (s : State) : Out :=
  execVec .vcvtph2hf8s vl o.raw 8 (vl.bits / 16) (fp8Elem .hf8 true) s

/-- VCVT2PS2PHX (spec/44_convert_fp8.md R290). -/
def execVcvt2ps2phx (vl : VL) (o : VecOp3) (s : State) : Out :=
  execVec .vcvt2ps2phx vl o.raw 16 (vl.bits / 16) (fp16Pair (vl.bits / 32) (s.roundMode o.rm.loc) s.daz) s

/-- VCVTBIASPH2BF8 (spec/44_convert_fp8.md R291). -/
def execVcvtbiasph2bf8 (vl : VL) (o : VecOp3) (s : State) : Out :=
  execVec .vcvtbiasph2bf8 vl o.raw 8 (vl.bits / 16) (fp8Bias .bf8 false) s

/-- VCVTBIASPH2BF8S (spec/44_convert_fp8.md R292). -/
def execVcvtbiasph2bf8s (vl : VL) (o : VecOp3) (s : State) : Out :=
  execVec .vcvtbiasph2bf8s vl o.raw 8 (vl.bits / 16) (fp8Bias .bf8 true) s

/-- VCVTBIASPH2HF8 (spec/44_convert_fp8.md R293). -/
def execVcvtbiasph2hf8 (vl : VL) (o : VecOp3) (s : State) : Out :=
  execVec .vcvtbiasph2hf8 vl o.raw 8 (vl.bits / 16) (fp8Bias .hf8 false) s

/-- VCVTBIASPH2HF8S (spec/44_convert_fp8.md R294). -/
def execVcvtbiasph2hf8s (vl : VL) (o : VecOp3) (s : State) : Out :=
  execVec .vcvtbiasph2hf8s vl o.raw 8 (vl.bits / 16) (fp8Bias .hf8 true) s

/-- VCVTHF82PH (spec/44_convert_fp8.md R295). -/
def execVcvthf82ph (vl : VL) (o : VecOp2) (s : State) : Out :=
  execVec .vcvthf82ph vl o.raw 16 (vl.bits / 16) hf8ToFp16Elem s

end Sys2Proof.Machine
end

