-- ==== Sys2Proof/Machine/MinMax.lean ====
section
/-! DEFINITION. The MINMAX instructions (spec/40_numerics_helpers.md R150 to R158, spec/46_minmax.md R340 to R352). -/

namespace Sys2Proof.Machine

/-! ## The eight operations -/

/-- The two choices an operation compares by: the smaller or the larger value. -/
inductive Pick where
  | min
  | max
deriving DecidableEq, Repr

/-- The key order in which the first operand is kept: `a <= b` for a minimum, `a >= b` for a maximum. -/
def Pick.keeps (p : Pick) (ka kb : Int) : Bool :=
  match p with
  | .min => decide (ka ≤ kb)
  | .max => decide (kb ≤ ka)

/-- `minimum` and `maximum` on operands that are not NaN (R150, R154): of two zeros of opposite sign the minimum is -0, the
maximum +0. -/
def pickNumber (f : Fmt) (p : Pick) (a b : Nat) : Nat :=
  if f.isZero a && f.isZero b && f.sign a != f.sign b then f.zero (p == .min)
  else if p.keeps (f.key a) (f.key b) then a
  else b

/-- The magnitude of a pattern as a number, `abs(x)` for comparison. -/
def Fmt.magKey (f : Fmt) (x : Nat) : Nat := x % 2 ^ (f.ebits + f.fbits)

/-- The magnitude operations on operands that are not NaN (R152, R156). -/
def pickMagnitude (f : Fmt) (p : Pick) (a b : Nat) : Nat :=
  if f.magKey a = f.magKey b then pickNumber f p a b
  else if p.keeps (f.magKey a) (f.magKey b) then a
  else b

/-- The operation of imm8[1:0] on operands that are not NaN (spec/46_minmax.md R341). -/
def pickSelected (f : Fmt) (sel : Nat) (a b : Nat) : Nat :=
  match sel with
  | 0 => pickNumber f .min a b
  | 1 => pickNumber f .max a b
  | 2 => pickMagnitude f .min a b
  | _ => pickMagnitude f .max a b

/-- The NaN that both flavours return when they return one: SNaN of `a`, SNaN of `b`, QNaN of `a`, QNaN of `b`
(R150 to R157, spec/46_minmax.md R343); at least one operand is a NaN. -/
def pickNaN (f : Fmt) (a b : Nat) : Nat :=
  if f.isSNaN a || (f.isNaN a && !f.isSNaN b) then f.quiet a else f.quiet b

/-- The comparison result of the operation `sel`; `number` is imm8[4] (R150 to R157). -/
def minmaxSelect (f : Fmt) (sel : Nat) (number : Bool) (a b : Nat) : Nat :=
  if f.isNaN a && f.isNaN b then pickNaN f a b
  else if f.isNaN a then (if number then b else pickNaN f a b)
  else if f.isNaN b then (if number then a else pickNaN f a b)
  else pickSelected f sel a b

/-- The sign control imm8[3:2] on a result that is not a NaN (R158, spec/46_minmax.md R341). -/
def signControl (f : Fmt) (sc a r : Nat) : Nat :=
  if f.isNaN r then r
  else if sc = 3 then f.withSign true r
  else if sc = 2 then f.withSign false r
  else if sc = 1 || f.isNaN a then r
  else f.withSign (f.sign a) r

/-- The flags of `minmax` for the operands after DAZ (R158). -/
def minmaxFlags (f : Fmt) (a b : Nat) : Flags :=
  if f.isSNaN a || f.isSNaN b then flagIE
  else if f.isNaN a || f.isNaN b then 0
  else when (f.isDenormal a || f.isDenormal b) flagDE

/-- `minmax(a, b, imm, daz, except)` (R158). -/
def minmax (f : Fmt) (imm : BitVec 8) (daz except : Bool) (a b : Nat) : Nat × Flags :=
  let a := if daz then f.daz a else a
  let b := if daz then f.daz b else b
  (signControl f (imm.toNat / 4 % 4) a (minmaxSelect f (imm.toNat % 4) (imm.getLsbD 4) a b),
    if except then minmaxFlags f a b else 0)

/-- The element function (spec/46_minmax.md R342). -/
def minmaxElem (f : Fmt) (w : Nat) (imm : BitVec 8) (daz except : Bool) (o : Sources) (j : Nat) : Elem w :=
  let r := minmax f imm daz except (lane w j o.src1).toNat (lane w j o.src2).toNat
  (BitVec.ofNat w r.1, r.2)

/-! ## The instructions -/

/-- VMINMAXBF16 (spec/46_minmax.md R344). -/
def execVminmaxbf16 (vl : VL) (o : VecOp3) (imm : BitVec 8) (s : State) : Out :=
  execVec .vminmaxbf16 vl (o.raw imm) 16 (vl.bits / 16) (minmaxElem bf16 16 imm true false) s

/-- VMINMAXPH (spec/46_minmax.md R345). -/
def execVminmaxph (vl : VL) (o : VecOp3) (imm : BitVec 8) (s : State) : Out :=
  execVec .vminmaxph vl (o.raw imm) 16 (vl.bits / 16) (minmaxElem fp16 16 imm false true) s

/-- VMINMAXPS (spec/46_minmax.md R346). -/
def execVminmaxps (vl : VL) (o : VecOp3) (imm : BitVec 8) (s : State) : Out :=
  execVec .vminmaxps vl (o.raw imm) 32 (vl.bits / 32) (minmaxElem fp32 32 imm s.daz true) s

/-- VMINMAXPD (spec/46_minmax.md R348). -/
def execVminmaxpd (vl : VL) (o : VecOp3) (imm : BitVec 8) (s : State) : Out :=
  execVec .vminmaxpd vl (o.raw imm) 64 (vl.bits / 64) (minmaxElem fp64 64 imm s.daz true) s

/-- VMINMAXSH (spec/46_minmax.md R349). -/
def execVminmaxsh (o : VecOp3) (imm : BitVec 8) (s : State) : Out :=
  execScalar .vminmaxsh (o.raw imm) 16 (fun x => minmaxElem fp16 16 imm false true x 0) s

/-- VMINMAXSS (spec/46_minmax.md R350). -/
def execVminmaxss (o : VecOp3) (imm : BitVec 8) (s : State) : Out :=
  execScalar .vminmaxss (o.raw imm) 32 (fun x => minmaxElem fp32 32 imm s.daz true x 0) s

/-- VMINMAXSD (spec/46_minmax.md R351). -/
def execVminmaxsd (o : VecOp3) (imm : BitVec 8) (s : State) : Out :=
  execScalar .vminmaxsd (o.raw imm) 64 (fun x => minmaxElem fp64 64 imm s.daz true x 0) s

end Sys2Proof.Machine
end

