-- ==== Sys2Proof/Machine/PartialCopy.lean ====
section
/-! DEFINITION. The partial vector copies VMOVD and VMOVW (spec/48_partial_copy.md R410 to R415). -/

namespace Sys2Proof.Machine


/-! ## The instructions -/

/-- VMOVD (spec/48_partial_copy.md R411, load form). -/
def execVmovdLoad (o : RegRm) (s : State) : Out :=
  execLoad .vmovdLoad o.raw 32 s

/-- VMOVD (spec/48_partial_copy.md R412, store form). -/
def execVmovdStore (o : RegRm) (s : State) : Out :=
  execStore .vmovdStore o.raw 32 s

/-- VMOVW (spec/48_partial_copy.md R413, load form). -/
def execVmovwLoad (o : RegRm) (s : State) : Out :=
  execLoad .vmovwLoad o.raw 16 s

/-- VMOVW (spec/48_partial_copy.md R414, store form). -/
def execVmovwStore (o : RegRm) (s : State) : Out :=
  execStore .vmovwStore o.raw 16 s

end Sys2Proof.Machine
end

