-- ==== Sys2Proof/Machine/SatConvert.lean ====
section
/-! DEFINITION. The saturating converts (spec/40_numerics_helpers.md R160 to R181, spec/47_saturating_convert.md R360 to
R389). -/

namespace Sys2Proof.Machine

/-! ## The generic convert -/

/-- The range of a destination of `w` bits. -/
def intMax (signed : Bool) (w : Nat) : Int := if signed then 2 ^ (w - 1) - 1 else 2 ^ w - 1
/-- The range of a destination of `w` bits. -/
def intMin (signed : Bool) (w : Nat) : Int := if signed then -2 ^ (w - 1) else 0

/-- `RoundToIntegral` of a finite value (spec/40_numerics_helpers.md R135): the integer, and whether it differs. -/
def roundToIntegral (rm : RoundMode) (neg : Bool) (mag : Nat) (exp : Int) : Int × Bool :=
  let sh := (-exp).toNat
  let q := if 0 ≤ exp then mag * 2 ^ exp.toNat else roundShift rm neg mag sh
  (if neg then -(q : Int) else (q : Int), exp < 0 && mag % 2 ^ sh != 0)

/-- `SatCvt` with `flags = true` (spec/40_numerics_helpers.md R160): the integer and IE or PE. -/
def satCvt (f : Fmt) (x : Nat) (signed : Bool) (w : Nat) (rm : RoundMode) : Int × Flags :=
  if f.isNaN x then (0, flagIE)
  else
    match f.value x with
    | .inf neg => (if neg then intMin signed w else intMax signed w, flagIE)
    | .fin neg mag exp =>
      let r := roundToIntegral rm neg mag exp
      if intMax signed w < r.1 then (intMax signed w, flagIE)
      else if r.1 < intMin signed w then (intMin signed w, flagIE)
      else (r.1, when r.2 flagPE)

/-- A packed element: source width `ws`, destination width `wd`, the `w`-bit result zero extended to `wd` (R361). -/
def satElem (f : Fmt) (ws wd w : Nat) (signed : Bool) (rm : RoundMode) (daz : Bool) (o : Sources) (j : Nat) : Elem wd :=
  let x := (lane ws j o.src2).toNat
  let r := satCvt f (if daz then f.daz x else x) signed w rm
  ((BitVec.ofInt w r.1).setWidth wd, r.2)

/-- A BF16 element: DAZ, no flags (R362, R363). -/
def bf16ToByte (signed : Bool) (rm : RoundMode) (o : Sources) (j : Nat) : BitVec 16 :=
  (satElem bf16 16 16 8 signed rm true o j).1

/-- The result of a scalar convert, zero extended to 64 bits (R388). -/
def satGeneral (f : Fmt) (ws w : Nat) (signed daz : Bool) (o : Sources) : Elem 64 := satElem f ws 64 w signed .rtz daz o 0

/-- The result width of a form with `EVEX.W` = 1: 64 in 64-bit mode, 32 in the others (R388). -/
def State.wideWidth (s : State) : Nat := if s.mode = .mode64 then 64 else 32

/-! ## The instructions -/

/-- VCVTBF162IBS (spec/47_saturating_convert.md R364). -/
def execVcvtbf162ibs (vl : VL) (o : VecOp2) (s : State) : Out :=
  execVec .vcvtbf162ibs vl o.raw 16 (vl.bits / 16) (silent (bf16ToByte true .rne)) s

/-- VCVTBF162IUBS (spec/47_saturating_convert.md R365). -/
def execVcvtbf162iubs (vl : VL) (o : VecOp2) (s : State) : Out :=
  execVec .vcvtbf162iubs vl o.raw 16 (vl.bits / 16) (silent (bf16ToByte false .rne)) s

/-- VCVTTBF162IBS (spec/47_saturating_convert.md R366). -/
def execVcvttbf162ibs (vl : VL) (o : VecOp2) (s : State) : Out :=
  execVec .vcvttbf162ibs vl o.raw 16 (vl.bits / 16) (silent (bf16ToByte true .rtz)) s

/-- VCVTTBF162IUBS (spec/47_saturating_convert.md R367). -/
def execVcvttbf162iubs (vl : VL) (o : VecOp2) (s : State) : Out :=
  execVec .vcvttbf162iubs vl o.raw 16 (vl.bits / 16) (silent (bf16ToByte false .rtz)) s

/-- VCVTPH2IBS (spec/47_saturating_convert.md R368). -/
def execVcvtph2ibs (vl : VL) (o : VecOp2) (s : State) : Out :=
  execVec .vcvtph2ibs vl o.raw 16 (vl.bits / 16) (satElem fp16 16 16 8 true (s.roundMode o.rm.loc) false) s

/-- VCVTPH2IUBS (spec/47_saturating_convert.md R369). -/
def execVcvtph2iubs (vl : VL) (o : VecOp2) (s : State) : Out :=
  execVec .vcvtph2iubs vl o.raw 16 (vl.bits / 16) (satElem fp16 16 16 8 false (s.roundMode o.rm.loc) false) s

/-- VCVTTPH2IBS (spec/47_saturating_convert.md R370). -/
def execVcvttph2ibs (vl : VL) (o : VecOp2) (s : State) : Out :=
  execVec .vcvttph2ibs vl o.raw 16 (vl.bits / 16) (satElem fp16 16 16 8 true .rtz false) s

/-- VCVTTPH2IUBS (spec/47_saturating_convert.md R371). -/
def execVcvttph2iubs (vl : VL) (o : VecOp2) (s : State) : Out :=
  execVec .vcvttph2iubs vl o.raw 16 (vl.bits / 16) (satElem fp16 16 16 8 false .rtz false) s

/-- VCVTPS2IBS (spec/47_saturating_convert.md R372). -/
def execVcvtps2ibs (vl : VL) (o : VecOp2) (s : State) : Out :=
  execVec .vcvtps2ibs vl o.raw 32 (vl.bits / 32) (satElem fp32 32 32 8 true (s.roundMode o.rm.loc) s.daz) s

/-- VCVTPS2IUBS (spec/47_saturating_convert.md R373). -/
def execVcvtps2iubs (vl : VL) (o : VecOp2) (s : State) : Out :=
  execVec .vcvtps2iubs vl o.raw 32 (vl.bits / 32) (satElem fp32 32 32 8 false (s.roundMode o.rm.loc) s.daz) s

/-- VCVTTPS2IBS (spec/47_saturating_convert.md R374). -/
def execVcvttps2ibs (vl : VL) (o : VecOp2) (s : State) : Out :=
  execVec .vcvttps2ibs vl o.raw 32 (vl.bits / 32) (satElem fp32 32 32 8 true .rtz s.daz) s

/-- VCVTTPS2IUBS (spec/47_saturating_convert.md R375). -/
def execVcvttps2iubs (vl : VL) (o : VecOp2) (s : State) : Out :=
  execVec .vcvttps2iubs vl o.raw 32 (vl.bits / 32) (satElem fp32 32 32 8 false .rtz s.daz) s

/-- VCVTTPD2DQS (spec/47_saturating_convert.md R376). -/
def execVcvttpd2dqs (vl : VL) (o : VecOp2) (s : State) : Out :=
  execVec .vcvttpd2dqs vl o.raw 32 (vl.bits / 64) (satElem fp64 64 32 32 true .rtz s.daz) s

/-- VCVTTPD2QQS (spec/47_saturating_convert.md R377). -/
def execVcvttpd2qqs (vl : VL) (o : VecOp2) (s : State) : Out :=
  execVec .vcvttpd2qqs vl o.raw 64 (vl.bits / 64) (satElem fp64 64 64 64 true .rtz s.daz) s

/-- VCVTTPD2UDQS (spec/47_saturating_convert.md R378). -/
def execVcvttpd2udqs (vl : VL) (o : VecOp2) (s : State) : Out :=
  execVec .vcvttpd2udqs vl o.raw 32 (vl.bits / 64) (satElem fp64 64 32 32 false .rtz s.daz) s

/-- VCVTTPD2UQQS (spec/47_saturating_convert.md R379). -/
def execVcvttpd2uqqs (vl : VL) (o : VecOp2) (s : State) : Out :=
  execVec .vcvttpd2uqqs vl o.raw 64 (vl.bits / 64) (satElem fp64 64 64 64 false .rtz s.daz) s

/-- VCVTTPS2DQS (spec/47_saturating_convert.md R380). -/
def execVcvttps2dqs (vl : VL) (o : VecOp2) (s : State) : Out :=
  execVec .vcvttps2dqs vl o.raw 32 (vl.bits / 32) (satElem fp32 32 32 32 true .rtz s.daz) s

/-- VCVTTPS2QQS (spec/47_saturating_convert.md R381). -/
def execVcvttps2qqs (vl : VL) (o : VecOp2) (s : State) : Out :=
  execVec .vcvttps2qqs vl o.raw 64 (vl.bits / 64) (satElem fp32 32 64 64 true .rtz s.daz) s

/-- VCVTTPS2UDQS (spec/47_saturating_convert.md R382). -/
def execVcvttps2udqs (vl : VL) (o : VecOp2) (s : State) : Out :=
  execVec .vcvttps2udqs vl o.raw 32 (vl.bits / 32) (satElem fp32 32 32 32 false .rtz s.daz) s

/-- VCVTTPS2UQQS (spec/47_saturating_convert.md R383). -/
def execVcvttps2uqqs (vl : VL) (o : VecOp2) (s : State) : Out :=
  execVec .vcvttps2uqqs vl o.raw 64 (vl.bits / 64) (satElem fp32 32 64 64 false .rtz s.daz) s

/-- VCVTTSD2SIS (spec/47_saturating_convert.md R384). -/
def execVcvttsd2sisR32 (o : GprRm) (s : State) : Out :=
  execGeneral .vcvttsd2sisR32 o.raw (satGeneral fp64 64 32 true s.daz) s

/-- VCVTTSD2SIS (spec/47_saturating_convert.md R384). -/
def execVcvttsd2sisR64 (o : GprRm) (s : State) : Out :=
  execGeneral .vcvttsd2sisR64 o.raw (satGeneral fp64 64 s.wideWidth true s.daz) s

/-- VCVTTSD2USIS (spec/47_saturating_convert.md R385). -/
def execVcvttsd2usisR32 (o : GprRm) (s : State) : Out :=
  execGeneral .vcvttsd2usisR32 o.raw (satGeneral fp64 64 32 false s.daz) s

/-- VCVTTSD2USIS (spec/47_saturating_convert.md R385). -/
def execVcvttsd2usisR64 (o : GprRm) (s : State) : Out :=
  execGeneral .vcvttsd2usisR64 o.raw (satGeneral fp64 64 s.wideWidth false s.daz) s

/-- VCVTTSS2SIS (spec/47_saturating_convert.md R386). -/
def execVcvttss2sisR32 (o : GprRm) (s : State) : Out :=
  execGeneral .vcvttss2sisR32 o.raw (satGeneral fp32 32 32 true s.daz) s

/-- VCVTTSS2SIS (spec/47_saturating_convert.md R386). -/
def execVcvttss2sisR64 (o : GprRm) (s : State) : Out :=
  execGeneral .vcvttss2sisR64 o.raw (satGeneral fp32 32 s.wideWidth true s.daz) s

/-- VCVTTSS2USIS (spec/47_saturating_convert.md R387). -/
def execVcvttss2usisR32 (o : GprRm) (s : State) : Out :=
  execGeneral .vcvttss2usisR32 o.raw (satGeneral fp32 32 32 false s.daz) s

/-- VCVTTSS2USIS (spec/47_saturating_convert.md R387). -/
def execVcvttss2usisR64 (o : GprRm) (s : State) : Out :=
  execGeneral .vcvttss2usisR64 o.raw (satGeneral fp32 32 s.wideWidth false s.daz) s

end Sys2Proof.Machine
end

