-- ==== Sys2Proof/Machine/Vnni.lean ====
section
/-! DEFINITION. The dot products and VMPSADBW (spec/45_vnni_media.md R310 to R329). -/

namespace Sys2Proof.Machine

/-! ## VDPHPHS -/

/-- `convert_fp16_to_fp32` (spec/40_numerics_helpers.md R148): exact, a NaN quieted. -/
def fp16ToFp32 (h : Nat) : Nat :=
  if fp16.isNaN h then fp32.quiet (fp32.pack (fp16.sign h) 255 (fp16.frac h * 2 ^ 13)) else fp32.roundFtz (fp16.value h)

/-- `fma32(c, a, b)` = `a * b + c` (R311). -/
def fma32 (c a b : Nat) : Nat := if fp32.isNaN c then c else fp32.fmaCore false false a b c

/-- One element of VDPHPHS: NaNs in the order even pair, odd pair, accumulator; the odd pair is accumulated first (R311). -/
def dphphs (acc x y : Nat) : Nat :=
  let s1e := fp16ToFp32 (x % 2 ^ 16)
  let s2e := fp16ToFp32 (y % 2 ^ 16)
  let s1o := fp16ToFp32 (x / 2 ^ 16)
  let s2o := fp16ToFp32 (y / 2 ^ 16)
  match fp32.firstNaN [s1e, s2e, s1o, s2o, acc] with
  | some n => n
  | none => fma32 (fma32 acc s1o s2o) s1e s2e

/-- The element function of VDPHPHS. -/
def dphphsElem (o : Sources) (j : Nat) : BitVec 32 :=
  BitVec.ofNat 32 (dphphs (lane 32 j o.dest).toNat (lane 32 j o.src1).toNat (lane 32 j o.src2).toNat)

/-! ## VMPSADBW -/

/-- The absolute difference of two bytes. -/
def absDiff (a b : Byte) : Nat := if a ≤ b then b.toNat - a.toNat else a.toNat - b.toNat

/-- Word `j`: word `j mod 8` of 128-bit lane `j / 8`; even lanes use imm8[2:0], odd lanes imm8[5:3] (R312). -/
def mpsad (imm : BitVec 8) (a b : Zmm) (j : Nat) : Nat :=
  let base := j / 8 * 16
  let control := if j / 8 % 2 = 0 then imm.toNat % 8 else imm.toNat / 8 % 8
  let pos1 := base + control / 4 * 4 + j % 8
  let pos2 := base + control % 4 * 4
  absDiff (lane 8 pos1 a) (lane 8 pos2 b) + absDiff (lane 8 (pos1 + 1) a) (lane 8 (pos2 + 1) b) +
    absDiff (lane 8 (pos1 + 2) a) (lane 8 (pos2 + 2) b) + absDiff (lane 8 (pos1 + 3) a) (lane 8 (pos2 + 3) b)

/-- The element function of VMPSADBW. -/
def mpsadElem (imm : BitVec 8) (o : Sources) (j : Nat) : BitVec 16 := BitVec.ofNat 16 (mpsad imm o.src1 o.src2 j)

/-! ## Integer dot products -/

/-- What happens to a sum past the doubleword (R313, R320). -/
inductive Saturation where
  | wrap
  | signed
  | unsigned
deriving DecidableEq, Repr

/-- An element sign extended or zero extended. -/
def extend {w : Nat} (signed : Bool) (x : BitVec w) : Int := if signed then x.toInt else (x.toNat : Int)

/-- The sum of the products of `n` elements of `w` bits from element `i` on (R313, R320). -/
def dotSum (w : Nat) (signed1 signed2 : Bool) (a b : Zmm) (i : Nat) : Nat → Int
  | 0 => 0
  | n + 1 => dotSum w signed1 signed2 a b i n + extend signed1 (lane w (i + n) a) * extend signed2 (lane w (i + n) b)

/-- `SIGNED_DWORD_SATURATE` (R321). -/
def signedDword (x : Int) : BitVec 32 :=
  if 2 ^ 31 - 1 < x then 0x7FFFFFFF else if x < -2 ^ 31 then 0x80000000 else BitVec.ofInt 32 x

/-- `UNSIGNED_DWORD_SATURATE` (R321). -/
def unsignedDword (x : Int) : BitVec 32 := if 2 ^ 32 - 1 < x then 0xFFFFFFFF else BitVec.ofInt 32 x

/-- Accumulates an exact sum of products into a doubleword (R313, R320). -/
def accumulate (sat : Saturation) (old : BitVec 32) (p : Int) : BitVec 32 :=
  match sat with
  | .wrap => BitVec.ofInt 32 ((old.toNat : Int) + p)
  | .signed => signedDword (old.toInt + p)
  | .unsigned => unsignedDword ((old.toNat : Int) + p)

/-- The element function: `n` products of `w`-bit elements into each doubleword. -/
def dotElem (w n : Nat) (signed1 signed2 : Bool) (sat : Saturation) (o : Sources) (j : Nat) : BitVec 32 :=
  accumulate sat (lane 32 j o.dest) (dotSum w signed1 signed2 o.src1 o.src2 (n * j) n)

/-! ## The instructions -/

/-- VDPHPHS (spec/45_vnni_media.md R311). -/
def execVdphphs (vl : VL) (o : VecOp3) (s : State) : Out :=
  execVec .vdphphs vl o.raw 32 (vl.bits / 32) (silent dphphsElem) s

/-- VMPSADBW (spec/45_vnni_media.md R312). -/
def execVmpsadbw (vl : VL) (o : VecOp3) (imm : BitVec 8) (s : State) : Out :=
  execVec .vmpsadbw vl (o.raw imm) 16 (vl.bits / 16) (silent (mpsadElem imm)) s

/-- VPDPBSSD (spec/45_vnni_media.md R314). -/
def execVpdpbssd (vl : VL) (o : VecOp3) (s : State) : Out :=
  execVec .vpdpbssd vl o.raw 32 (vl.bits / 32) (silent (dotElem 8 4 true true .wrap)) s

/-- VPDPBSSDS (spec/45_vnni_media.md R315). -/
def execVpdpbssds (vl : VL) (o : VecOp3) (s : State) : Out :=
  execVec .vpdpbssds vl o.raw 32 (vl.bits / 32) (silent (dotElem 8 4 true true .signed)) s

/-- VPDPBSUD (spec/45_vnni_media.md R316). -/
def execVpdpbsud (vl : VL) (o : VecOp3) (s : State) : Out :=
  execVec .vpdpbsud vl o.raw 32 (vl.bits / 32) (silent (dotElem 8 4 true false .wrap)) s

/-- VPDPBSUDS (spec/45_vnni_media.md R317). -/
def execVpdpbsuds (vl : VL) (o : VecOp3) (s : State) : Out :=
  execVec .vpdpbsuds vl o.raw 32 (vl.bits / 32) (silent (dotElem 8 4 true false .signed)) s

/-- VPDPBUUD (spec/45_vnni_media.md R318). -/
def execVpdpbuud (vl : VL) (o : VecOp3) (s : State) : Out :=
  execVec .vpdpbuud vl o.raw 32 (vl.bits / 32) (silent (dotElem 8 4 false false .wrap)) s

/-- VPDPBUUDS (spec/45_vnni_media.md R319). -/
def execVpdpbuuds (vl : VL) (o : VecOp3) (s : State) : Out :=
  execVec .vpdpbuuds vl o.raw 32 (vl.bits / 32) (silent (dotElem 8 4 false false .unsigned)) s

/-- VPDPWSUD (spec/45_vnni_media.md R323). -/
def execVpdpwsud (vl : VL) (o : VecOp3) (s : State) : Out :=
  execVec .vpdpwsud vl o.raw 32 (vl.bits / 32) (silent (dotElem 16 2 true false .wrap)) s

/-- VPDPWSUDS (spec/45_vnni_media.md R324). -/
def execVpdpwsuds (vl : VL) (o : VecOp3) (s : State) : Out :=
  execVec .vpdpwsuds vl o.raw 32 (vl.bits / 32) (silent (dotElem 16 2 true false .signed)) s

/-- VPDPWUSD (spec/45_vnni_media.md R325). -/
def execVpdpwusd (vl : VL) (o : VecOp3) (s : State) : Out :=
  execVec .vpdpwusd vl o.raw 32 (vl.bits / 32) (silent (dotElem 16 2 false true .wrap)) s

/-- VPDPWUSDS (spec/45_vnni_media.md R326). -/
def execVpdpwusds (vl : VL) (o : VecOp3) (s : State) : Out :=
  execVec .vpdpwusds vl o.raw 32 (vl.bits / 32) (silent (dotElem 16 2 false true .signed)) s

/-- VPDPWUUD (spec/45_vnni_media.md R327). -/
def execVpdpwuud (vl : VL) (o : VecOp3) (s : State) : Out :=
  execVec .vpdpwuud vl o.raw 32 (vl.bits / 32) (silent (dotElem 16 2 false false .wrap)) s

/-- VPDPWUUDS (spec/45_vnni_media.md R328). -/
def execVpdpwuuds (vl : VL) (o : VecOp3) (s : State) : Out :=
  execVec .vpdpwuuds vl o.raw 32 (vl.bits / 32) (silent (dotElem 16 2 false false .unsigned)) s

end Sys2Proof.Machine
end

