-- ==== Sys2Proof/Machine/Dispatch.lean ====
section
/-! DEFINITION. The dispatcher: one arm per instruction, each a call of its meaning. -/

namespace Sys2Proof.Machine

def exec (i : Instr) (s : State) : Host.Outcome State Fault Refusal :=
  match i with
  | .vaddbf16 vl o => Sys2Proof.Machine.execVaddbf16 vl o s
  | .vcmpbf16 vl o imm => Sys2Proof.Machine.execVcmpbf16 vl o imm s
  | .vcomisbf16 o => Sys2Proof.Machine.execVcomisbf16 o s
  | .vdivbf16 vl o => Sys2Proof.Machine.execVdivbf16 vl o s
  | .vfmadd132bf16 vl o => Sys2Proof.Machine.execVfmadd132bf16 vl o s
  | .vfmadd213bf16 vl o => Sys2Proof.Machine.execVfmadd213bf16 vl o s
  | .vfmadd231bf16 vl o => Sys2Proof.Machine.execVfmadd231bf16 vl o s
  | .vfmsub132bf16 vl o => Sys2Proof.Machine.execVfmsub132bf16 vl o s
  | .vfmsub213bf16 vl o => Sys2Proof.Machine.execVfmsub213bf16 vl o s
  | .vfmsub231bf16 vl o => Sys2Proof.Machine.execVfmsub231bf16 vl o s
  | .vfnmadd132bf16 vl o => Sys2Proof.Machine.execVfnmadd132bf16 vl o s
  | .vfnmadd213bf16 vl o => Sys2Proof.Machine.execVfnmadd213bf16 vl o s
  | .vfnmadd231bf16 vl o => Sys2Proof.Machine.execVfnmadd231bf16 vl o s
  | .vfnmsub132bf16 vl o => Sys2Proof.Machine.execVfnmsub132bf16 vl o s
  | .vfnmsub213bf16 vl o => Sys2Proof.Machine.execVfnmsub213bf16 vl o s
  | .vfnmsub231bf16 vl o => Sys2Proof.Machine.execVfnmsub231bf16 vl o s
  | .vfpclassbf16 vl o imm => Sys2Proof.Machine.execVfpclassbf16 vl o imm s
  | .vgetexpbf16 vl o => Sys2Proof.Machine.execVgetexpbf16 vl o s
  | .vgetmantbf16 vl o imm => Sys2Proof.Machine.execVgetmantbf16 vl o imm s
  | .vmaxbf16 vl o => Sys2Proof.Machine.execVmaxbf16 vl o s
  | .vminbf16 vl o => Sys2Proof.Machine.execVminbf16 vl o s
  | .vmulbf16 vl o => Sys2Proof.Machine.execVmulbf16 vl o s
  | .vrcpbf16 vl o => Sys2Proof.Machine.execVrcpbf16 vl o s
  | .vreducebf16 vl o imm => Sys2Proof.Machine.execVreducebf16 vl o imm s
  | .vrndscalebf16 vl o imm => Sys2Proof.Machine.execVrndscalebf16 vl o imm s
  | .vrsqrtbf16 vl o => Sys2Proof.Machine.execVrsqrtbf16 vl o s
  | .vscalefbf16 vl o => Sys2Proof.Machine.execVscalefbf16 vl o s
  | .vsqrtbf16 vl o => Sys2Proof.Machine.execVsqrtbf16 vl o s
  | .vsubbf16 vl o => Sys2Proof.Machine.execVsubbf16 vl o s
  | .vcomxsd o => Sys2Proof.Machine.execVcomxsd o s
  | .vcomxsh o => Sys2Proof.Machine.execVcomxsh o s
  | .vcomxss o => Sys2Proof.Machine.execVcomxss o s
  | .vucomxsd o => Sys2Proof.Machine.execVucomxsd o s
  | .vucomxsh o => Sys2Proof.Machine.execVucomxsh o s
  | .vucomxss o => Sys2Proof.Machine.execVucomxss o s
  | .vcvt2ph2bf8 vl o => Sys2Proof.Machine.execVcvt2ph2bf8 vl o s
  | .vcvt2ph2bf8s vl o => Sys2Proof.Machine.execVcvt2ph2bf8s vl o s
  | .vcvt2ph2hf8 vl o => Sys2Proof.Machine.execVcvt2ph2hf8 vl o s
  | .vcvt2ph2hf8s vl o => Sys2Proof.Machine.execVcvt2ph2hf8s vl o s
  | .vcvtph2bf8 vl o => Sys2Proof.Machine.execVcvtph2bf8 vl o s
  | .vcvtph2bf8s vl o => Sys2Proof.Machine.execVcvtph2bf8s vl o s
  | .vcvtph2hf8 vl o => Sys2Proof.Machine.execVcvtph2hf8 vl o s
  | .vcvtph2hf8s vl o => Sys2Proof.Machine.execVcvtph2hf8s vl o s
  | .vcvt2ps2phx vl o => Sys2Proof.Machine.execVcvt2ps2phx vl o s
  | .vcvtbiasph2bf8 vl o => Sys2Proof.Machine.execVcvtbiasph2bf8 vl o s
  | .vcvtbiasph2bf8s vl o => Sys2Proof.Machine.execVcvtbiasph2bf8s vl o s
  | .vcvtbiasph2hf8 vl o => Sys2Proof.Machine.execVcvtbiasph2hf8 vl o s
  | .vcvtbiasph2hf8s vl o => Sys2Proof.Machine.execVcvtbiasph2hf8s vl o s
  | .vcvthf82ph vl o => Sys2Proof.Machine.execVcvthf82ph vl o s
  | .vdphphs vl o => Sys2Proof.Machine.execVdphphs vl o s
  | .vmpsadbw vl o imm => Sys2Proof.Machine.execVmpsadbw vl o imm s
  | .vpdpbssd vl o => Sys2Proof.Machine.execVpdpbssd vl o s
  | .vpdpbssds vl o => Sys2Proof.Machine.execVpdpbssds vl o s
  | .vpdpbsud vl o => Sys2Proof.Machine.execVpdpbsud vl o s
  | .vpdpbsuds vl o => Sys2Proof.Machine.execVpdpbsuds vl o s
  | .vpdpbuud vl o => Sys2Proof.Machine.execVpdpbuud vl o s
  | .vpdpbuuds vl o => Sys2Proof.Machine.execVpdpbuuds vl o s
  | .vpdpwsud vl o => Sys2Proof.Machine.execVpdpwsud vl o s
  | .vpdpwsuds vl o => Sys2Proof.Machine.execVpdpwsuds vl o s
  | .vpdpwusd vl o => Sys2Proof.Machine.execVpdpwusd vl o s
  | .vpdpwusds vl o => Sys2Proof.Machine.execVpdpwusds vl o s
  | .vpdpwuud vl o => Sys2Proof.Machine.execVpdpwuud vl o s
  | .vpdpwuuds vl o => Sys2Proof.Machine.execVpdpwuuds vl o s
  | .vminmaxbf16 vl o imm => Sys2Proof.Machine.execVminmaxbf16 vl o imm s
  | .vminmaxpd vl o imm => Sys2Proof.Machine.execVminmaxpd vl o imm s
  | .vminmaxph vl o imm => Sys2Proof.Machine.execVminmaxph vl o imm s
  | .vminmaxps vl o imm => Sys2Proof.Machine.execVminmaxps vl o imm s
  | .vminmaxsd o imm => Sys2Proof.Machine.execVminmaxsd o imm s
  | .vminmaxsh o imm => Sys2Proof.Machine.execVminmaxsh o imm s
  | .vminmaxss o imm => Sys2Proof.Machine.execVminmaxss o imm s
  | .vcvtbf162ibs vl o => Sys2Proof.Machine.execVcvtbf162ibs vl o s
  | .vcvtbf162iubs vl o => Sys2Proof.Machine.execVcvtbf162iubs vl o s
  | .vcvttbf162ibs vl o => Sys2Proof.Machine.execVcvttbf162ibs vl o s
  | .vcvttbf162iubs vl o => Sys2Proof.Machine.execVcvttbf162iubs vl o s
  | .vcvttpd2dqs vl o => Sys2Proof.Machine.execVcvttpd2dqs vl o s
  | .vcvttpd2qqs vl o => Sys2Proof.Machine.execVcvttpd2qqs vl o s
  | .vcvttpd2udqs vl o => Sys2Proof.Machine.execVcvttpd2udqs vl o s
  | .vcvttpd2uqqs vl o => Sys2Proof.Machine.execVcvttpd2uqqs vl o s
  | .vcvtph2ibs vl o => Sys2Proof.Machine.execVcvtph2ibs vl o s
  | .vcvtph2iubs vl o => Sys2Proof.Machine.execVcvtph2iubs vl o s
  | .vcvttph2ibs vl o => Sys2Proof.Machine.execVcvttph2ibs vl o s
  | .vcvttph2iubs vl o => Sys2Proof.Machine.execVcvttph2iubs vl o s
  | .vcvttps2dqs vl o => Sys2Proof.Machine.execVcvttps2dqs vl o s
  | .vcvtps2ibs vl o => Sys2Proof.Machine.execVcvtps2ibs vl o s
  | .vcvtps2iubs vl o => Sys2Proof.Machine.execVcvtps2iubs vl o s
  | .vcvttps2ibs vl o => Sys2Proof.Machine.execVcvttps2ibs vl o s
  | .vcvttps2iubs vl o => Sys2Proof.Machine.execVcvttps2iubs vl o s
  | .vcvttps2qqs vl o => Sys2Proof.Machine.execVcvttps2qqs vl o s
  | .vcvttps2udqs vl o => Sys2Proof.Machine.execVcvttps2udqs vl o s
  | .vcvttps2uqqs vl o => Sys2Proof.Machine.execVcvttps2uqqs vl o s
  | .vcvttsd2sisR32 o => Sys2Proof.Machine.execVcvttsd2sisR32 o s
  | .vcvttsd2sisR64 o => Sys2Proof.Machine.execVcvttsd2sisR64 o s
  | .vcvttsd2usisR32 o => Sys2Proof.Machine.execVcvttsd2usisR32 o s
  | .vcvttsd2usisR64 o => Sys2Proof.Machine.execVcvttsd2usisR64 o s
  | .vcvttss2sisR32 o => Sys2Proof.Machine.execVcvttss2sisR32 o s
  | .vcvttss2sisR64 o => Sys2Proof.Machine.execVcvttss2sisR64 o s
  | .vcvttss2usisR32 o => Sys2Proof.Machine.execVcvttss2usisR32 o s
  | .vcvttss2usisR64 o => Sys2Proof.Machine.execVcvttss2usisR64 o s
  | .vmovdLoad o => Sys2Proof.Machine.execVmovdLoad o s
  | .vmovdStore o => Sys2Proof.Machine.execVmovdStore o s
  | .vmovwLoad o => Sys2Proof.Machine.execVmovwLoad o s
  | .vmovwStore o => Sys2Proof.Machine.execVmovwStore o s

end Sys2Proof.Machine
end

