-- ==== Sys2Proof/Machine/Fetch.lean ====
section
/-! DEFINITION. Instruction fetch, placing code in memory, and the boot steps that enable the extension
(spec/30_encoding.md R90, spec/70_reset_and_hazards.md R472, R475). -/

namespace Sys2Proof.Machine

/-- The `n` bytes of memory from an address on; addresses wrap. -/
def State.bytesFrom (s : State) (a : Address) : Nat → List Byte
  | 0 => []
  | n + 1 => s.byteAt a :: s.bytesFrom (a + 1) n

/-- The bytes an instruction at `pc` can have. Fetch reads the flat byte array at `pc` (spec/92_eei_decisions.md D3;
log entry 21). -/
def State.fetchBytes (s : State) : List Byte := s.bytesFrom s.pc maxLength

/-- The bytes `bs` stored from an address on. -/
def State.withBytes (s : State) (a : Address) : List Byte → State
  | [] => s
  | b :: bs => (s.setByte a b).withBytes (a + 1) bs

/-- The bytes `bs` stored at `pc`. -/
def State.withCode (s : State) (bs : List Byte) : State := s.withBytes s.pc bs

/-- Items 3 to 6 of spec/70_reset_and_hazards.md R472: CR4.OSXSAVE and OSXMMEXCPT set, XCR0 bits 1, 2, 5, 6 and 7 set,
CR0.TS clear. -/
def State.enabled (s : State) : State :=
  { s with
    cr0  := s.cr0 &&& ~~~0x8
    cr4  := s.cr4 ||| 0x40400
    xcr0 := s.xcr0 ||| 0xE6 }

/-- The refusal that stands for a rejection of the decoder. -/
def refusalOf : Reject → Refusal
  | .foreign => .foreignEncoding
  | .overlong => .overlong
  | .address16 => .address16

end Sys2Proof.Machine
end

