-- ==== Sys2Proof/Machine/Step.lean ====
section
/-! DEFINITION. One step: fetch, decode, execute (spec/30_encoding.md R114). -/

namespace Sys2Proof.Machine

/-- One step. Encodings that R108 (e) to (j) refuse raise #UD; bytes that the spec gives no meaning to are refused. -/
def step (s : State) : Host.Outcome State Fault Refusal :=
  match decode s.mode s.fetchBytes with
  | .instr i _ => exec i s
  | .invalid => raise .ud s
  | .rejected r => .refused (refusalOf r)

/-- `s` with the instruction of `nbits` bits numbered `w` where the next step fetches, and the extension enabled as
spec/70_reset_and_hazards.md R472 says a model starts (log entry 9). -/
def State.withFetchWord (s : State) (nbits w : Nat) : State := (s.enabled).withCode (tableBytes nbits w)

end Sys2Proof.Machine
end

