-- ==== Sys2Proof/Safety.lean ====
section
/-! DEFINITION. The terms in which statements speak of runs: what a fault carries, when a form may run, what a form writes,
rounding of exact values, and the invariant that every step keeps. -/

namespace Sys2Proof.Machine

/-! ## Faults -/

/-- The exception a fault stands for, with its code (spec/60_exceptions.md R420, R439). -/
def Fault.exc : Fault → Exc
  | .invalidOpcode _ => .ud
  | .deviceNotAvailable _ => .nm
  | .stackFault _ => .ss
  | .generalProtection _ => .gp
  | .pageFault code _ => .pf code
  | .alignmentCheck _ => .ac
  | .simdFloatingPoint _ => .xm

/-- The state a fault leaves (spec/60_exceptions.md R434). -/
def Fault.state : Fault → State
  | .invalidOpcode s | .deviceNotAvailable s | .stackFault s | .generalProtection s | .pageFault _ s
  | .alignmentCheck s | .simdFloatingPoint s => s

/-! ## When a form may run -/

/-- Items 1 to 5 of spec/70_reset_and_hazards.md R472: none of the #UD conditions (a) to (d) of spec/30_encoding.md R108
holds for the form, and CR0.TS = 0. -/
structure Ready (s : State) (op : Op) : Prop where
  notReal       : s.mode ≠ .real
  notVirtual    : s.mode ≠ .virtual8086
  osxsave       : s.cr4.getLsbD 18 = true
  sse           : s.xcr0.getLsbD 1 = true
  avx           : s.xcr0.getLsbD 2 = true
  opmask        : s.xcr0.getLsbD 5 = true
  zmmHi256      : s.xcr0.getLsbD 6 = true
  hi16Zmm       : s.xcr0.getLsbD 7 = true
  cpuid         : s.cpuid.has op.info.feature = true
  notTaskSwitch : s.cr0.getLsbD 3 = false

/-- The pc can move past the instruction (spec/10_state.md R46). -/
def Fits (s : State) (i : Instr) : Prop := s.pc.toNat + i.length < 2 ^ s.pcBits

/-- The state with every SIMD floating-point exception masked and no flag set: what an instruction records in MXCSR from it
are the flags it signals (spec/10_state.md R28, R29). -/
def State.allMasked (s : State) : State := { s with mxcsr := s.mxcsr &&& ~~~0x3F#32 ||| 0x1F80#32 }

/-- Nothing of the flags counts as an unmasked exception: SAE is in force, or all of them are masked
(spec/60_exceptions.md R432). -/
def Quiet (s : State) (loc : Loc) (f : Flags) : Prop := loc.sae = true ∨ f &&& ~~~s.masks = 0

end Sys2Proof.Machine

namespace Sys2Proof

/-! ## What a form writes -/

/-- The kinds of destination (spec/10_state.md R23). -/
inductive Target where
  | vector
  | opmask
  | status
  | general
  | store
deriving DecidableEq, Repr

/-- The destination of a form (spec/10_state.md R23). -/
def Op.target : Op → Target
  | .vcmpbf16 | .vfpclassbf16 => .opmask
  | .vcomisbf16 | .vcomxsd | .vcomxsh | .vcomxss | .vucomxsd | .vucomxsh | .vucomxss => .status
  | .vcvttsd2sisR32 | .vcvttsd2sisR64 | .vcvttsd2usisR32 | .vcvttsd2usisR64
  | .vcvttss2sisR32 | .vcvttss2sisR64 | .vcvttss2usisR32 | .vcvttss2usisR64 => .general
  | .vmovdStore | .vmovwStore => .store
  | _ => .vector

/-- The low bits of a vector register that a form with a vector destination fills; the bits above become 0
(spec/10_state.md R21). -/
def Op.destBits (op : Op) (vl : VL) : Nat :=
  match op with
  | .vcvtph2bf8 | .vcvtph2bf8s | .vcvtph2hf8 | .vcvtph2hf8s
  | .vcvtbiasph2bf8 | .vcvtbiasph2bf8s | .vcvtbiasph2hf8 | .vcvtbiasph2hf8s
  | .vcvttpd2dqs | .vcvttpd2udqs => vl.bits / 2
  | .vminmaxsh | .vminmaxss | .vminmaxsd => 128
  | .vmovdLoad | .vmovdStore => 32
  | .vmovwLoad | .vmovwStore => 16
  | _ => vl.bits

/-- The result width in bits of an opmask destination: the number of elements. -/
def VL.words (vl : VL) : Nat := vl.bits / 16

/-- The register that r/m names, if it names one. -/
def Loc.register : Loc → Option VReg
  | .reg r | .regEr r _ | .regSae r => some r
  | .mem _ | .bcst _ => none

/-- r/m is memory with embedded broadcast. -/
def Loc.isBcst : Loc → Bool
  | .bcst _ => true
  | .reg _ | .regEr _ _ | .regSae _ | .mem _ => false

/-- The address form of a memory operand. -/
def Loc.addr : Loc → Option Addr
  | .mem a | .bcst a => some a
  | .reg _ | .regEr _ _ | .regSae _ => none

/-- The vector register an instruction writes, if any: for the store forms the register that r/m names. -/
def Instr.vectorDest (i : Instr) : Option VReg :=
  match i.op.target with
  | .vector => some i.parts.raw.reg
  | .store => i.parts.raw.rm.loc.register
  | .opmask | .status | .general => none

/-- The opmask register an instruction writes, if any. -/
def Instr.opmaskDest (i : Instr) : Option KReg :=
  if i.op.target = .opmask then some (i.parts.raw.reg.setWidth 3) else none

/-- The general register an instruction writes, if any. -/
def Instr.generalDest (i : Instr) : Option GReg :=
  if i.op.target = .general then some (i.parts.raw.reg.setWidth 4) else none

/-- The bits of MXCSR an instruction may set (spec/10_state.md R30). -/
def Op.settable (op : Op) : List Nat :=
  match op with
  | .vcomxsd | .vcomxsh | .vcomxss | .vucomxsd | .vucomxsh | .vucomxss
  | .vminmaxpd | .vminmaxph | .vminmaxps | .vminmaxsd | .vminmaxsh | .vminmaxss => [0, 1]
  | .vcvt2ph2bf8 | .vcvt2ph2bf8s | .vcvt2ph2hf8 | .vcvt2ph2hf8s
  | .vcvtph2bf8 | .vcvtph2bf8s | .vcvtph2hf8 | .vcvtph2hf8s
  | .vcvtbiasph2bf8 | .vcvtbiasph2bf8s | .vcvtbiasph2hf8 | .vcvtbiasph2hf8s
  | .vcvt2ps2phx => [0, 1, 3, 4, 5]
  | .vcvthf82ph => [1]
  | .vcvtph2ibs | .vcvtph2iubs | .vcvttph2ibs | .vcvttph2iubs
  | .vcvtps2ibs | .vcvtps2iubs | .vcvttps2ibs | .vcvttps2iubs
  | .vcvttpd2dqs | .vcvttpd2qqs | .vcvttpd2udqs | .vcvttpd2uqqs
  | .vcvttps2dqs | .vcvttps2qqs | .vcvttps2udqs | .vcvttps2uqqs
  | .vcvttsd2sisR32 | .vcvttsd2sisR64 | .vcvttsd2usisR32 | .vcvttsd2usisR64
  | .vcvttss2sisR32 | .vcvttss2sisR64 | .vcvttss2usisR32 | .vcvttss2usisR64 => [0, 5]
  | _ => []

/-- What selects an encoding: map, pp, W and opcode (spec/30_encoding.md R117). -/
def Op.code (op : Op) : BitVec 3 × BitVec 2 × Bool × BitVec 8 := (op.info.map, op.info.pp, op.info.w, op.info.opcode)

end Sys2Proof

namespace Sys2Proof.Machine

/-! ## Runs to the end -/

/-- What an instruction with an r/m source needs of the state and its operands to run: the extension is enabled, the source
can be read and is `x`, the pc can move on. -/
structure Runs (i : Instr) (s : State) (x : Zmm) : Prop where
  ready  : Ready s i.parts.op
  source : s.source i.parts.op i.parts.vl i.parts.raw = .ok x
  fits   : Fits s i

/-- `F` is the union of the flags `fl j` that the processed elements below `n` signal (spec/60_exceptions.md R432). -/
def Collected (s : State) (aaa : KReg) (n : Nat) (fl : Nat → Flags) (F : Flags) : Prop :=
  ∀ b, F.getLsbD b = true ↔ ∃ j, j < n ∧ s.active aaa j = true ∧ (fl j).getLsbD b = true

/-- `v` is what the masked write of the elements `res 0` to `res (n-1)` leaves in the destination register: the result
where the write mask selects the element, else 0 under zeroing and the old element under merging, and 0 above
(spec/30_encoding.md R112). -/
structure MaskedWrite (s : State) (raw : Raw) (w n : Nat) (res : Nat → BitVec w) (v : Zmm) : Prop where
  elems : ∀ j, j < n →
    lane w j v = if s.active raw.aaa j then res j else if raw.z then 0 else lane w j (s.vec raw.reg)
  above : ∀ b, w * n ≤ b → v.getLsbD b = false

/-- The instruction completes: it records `F` in MXCSR, writes its vector destination under the write mask, moves the pc,
and changes nothing else. -/
def VectorDone (i : Instr) (s : State) (F : Flags) (w n : Nat) (res : Nat → BitVec w) : Prop :=
  ∃ v, exec i s = .next (((s.orFlags F).setVec i.parts.raw.reg v).advance i.length) ∧
    MaskedWrite s i.parts.raw w n res v

/-- The instruction completes: it writes the opmask destination, bit `j` being `bitAt j` where the write mask selects it and
0 elsewhere, moves the pc, and changes nothing else (spec/30_encoding.md R113). -/
def OpmaskDone (i : Instr) (s : State) (d : KReg) (n : Nat) (bitAt : Nat → Bool) : Prop :=
  ∃ v, exec i s = .next ((s.setOpmask d v).advance i.length) ∧
    ∀ j, v.getLsbD j = (decide (j < n) && s.active i.parts.raw.aaa j && bitAt j)

/-- `e` is EFLAGS with the six status flags replaced (spec/10_state.md R32). -/
def StatusWritten (old e : BitVec 32) (of sf zf af pf cf : Bool) : Prop :=
  ∀ b, e.getLsbD b =
    if b = 0 then cf else if b = 2 then pf else if b = 4 then af else if b = 6 then zf else if b = 7 then sf
    else if b = 11 then of else old.getLsbD b

/-- The instruction completes: it records `F` in MXCSR, writes the six status flags, moves the pc, and changes nothing
else. -/
def StatusDone (i : Instr) (s : State) (F : Flags) (of sf zf af pf cf : Bool) : Prop :=
  ∃ e, exec i s = .next ({ s.orFlags F with eflags := e }.advance i.length) ∧ StatusWritten s.eflags e of sf zf af pf cf

/-- What `f` makes of the states in an outcome. -/
def Fault.mapState (f : State → State) : Fault → Fault
  | .invalidOpcode s => .invalidOpcode (f s)
  | .deviceNotAvailable s => .deviceNotAvailable (f s)
  | .stackFault s => .stackFault (f s)
  | .generalProtection s => .generalProtection (f s)
  | .pageFault c s => .pageFault c (f s)
  | .alignmentCheck s => .alignmentCheck (f s)
  | .simdFloatingPoint s => .simdFloatingPoint (f s)

/-- What `f` makes of the states in an outcome. -/
def outMapState (f : State → State) : Out → Out
  | .next s => .next (f s)
  | .fault e => .fault (e.mapState f)
  | .refused r => .refused r

/-! ## The memory operand -/

/-- The access that an instruction makes to memory, `none` when its r/m operand is a register: a read of the source, a write
of the destination for the store forms (spec/20_memory.md R61). -/
def memoryAccess (i : Instr) (s : State) : Option MemAccess :=
  match i.parts.raw.rm.loc with
  | .reg _ | .regEr _ _ | .regSae _ => none
  | .mem a =>
    if i.op.target = .store then some (s.destAccess i.op i.parts.raw.rm a)
    else some (s.sourceAccess i.op i.parts.vl false i.parts.raw a)
  | .bcst a =>
    if i.op.target = .store then some (s.destAccess i.op i.parts.raw.rm a)
    else some (s.sourceAccess i.op i.parts.vl true i.parts.raw a)

/-- The kind of region the byte at an offset of an access lies in. -/
def MemAccess.kindAt (m : MemAccess) (s : State) (o : Nat) : RegionKind := s.translate m o

/-- The byte of memory at an offset of an access. -/
def MemAccess.byteAt (m : MemAccess) (s : State) (o : Nat) : Byte := s.byteAt (s.physical m o)

/-! ## Exact values and rounding -/

/-- The value of a finite pattern (spec/40_numerics_helpers.md R133). -/
def Fmt.rat (f : Fmt) (x : Nat) : ℚ := (if f.sign x then -1 else 1) * (f.mag x : ℚ) * (2 : ℚ) ^ f.scale x

/-- A finite pattern of the format. -/
def Fmt.isFinite (f : Fmt) (x : Nat) : Bool := decide (x < 2 ^ (1 + f.ebits + f.fbits)) && f.exp x != f.expOnes

/-- One value is less than another, infinities included; neither pattern is a NaN. -/
def Fmt.valueLt (f : Fmt) (a b : Nat) : Prop :=
  if f.isInf a then f.sign a = true ∧ ¬(f.isInf b = true ∧ f.sign b = true)
  else if f.isInf b then f.sign b = false
  else f.rat a < f.rat b

/-- `q` is the nonzero value `v` rounded to `p` significant bits with an unbounded exponent, to nearest, ties to the even
significand (spec/41_bf16_arith.md R201 step 4). -/
def RoundedTo (p : Nat) (v : ℝ) (q : ℚ) : Prop :=
  ∃ m e : ℤ, q = m * 2 ^ e ∧ 2 ^ (p - 1) ≤ |m| ∧ |m| < 2 ^ p ∧
    ∀ m' e' : ℤ, |m'| < 2 ^ p →
      |v - (q : ℝ)| ≤ |v - (m' : ℝ) * 2 ^ e'| ∧
        (|v - (m' : ℝ) * 2 ^ e'| = |v - (q : ℝ)| → (m' : ℚ) * 2 ^ e' = q ∨ Even m)

/-- `r` is the pattern of the nonzero value `v` after rounding to nearest even, with tiny results flushed to a signed zero
and results out of range made infinite (spec/41_bf16_arith.md R201 steps 4 to 7). -/
def FlushedRound (f : Fmt) (v : ℝ) (r : Nat) : Prop :=
  ∃ (q : ℚ) (neg : Bool), RoundedTo (f.fbits + 1) v q ∧ (neg = true ↔ v < 0) ∧
    (|q| < 2 ^ (1 - (f.bias : ℤ)) → r = f.zero neg) ∧
    (2 ^ (1 + (f.bias : ℤ)) ≤ |q| → r = f.inf neg) ∧
    (2 ^ (1 - (f.bias : ℤ)) ≤ |q| → |q| < 2 ^ (1 + (f.bias : ℤ)) →
      f.isFinite r = true ∧ f.isDenormal r = false ∧ f.rat r = q)

/-- Of the patterns below `n` with the values `val`, `r` is the nearest to `v`, the even one of two that are equally near
(spec/40_numerics_helpers.md R135). -/
def NearestEven (val : Nat → ℚ) (n : Nat) (v : ℚ) (r : Nat) : Prop :=
  r < n ∧ ∀ c, c < n → |v - val r| ≤ |v - val c| ∧ (|v - val c| = |v - val r| → c = r ∨ r % 2 = 0)

/-- `RoundToIntegral` (spec/40_numerics_helpers.md R135). -/
def RoundMode.toIntegral (rm : RoundMode) (v : ℚ) : ℤ :=
  match rm with
  | .rne => if v - ⌊v⌋ < 1 / 2 then ⌊v⌋ else if 1 / 2 < v - ⌊v⌋ then ⌊v⌋ + 1 else if ⌊v⌋ % 2 = 0 then ⌊v⌋ else ⌊v⌋ + 1
  | .rdn => ⌊v⌋
  | .rup => ⌈v⌉
  | .rtz => if 0 ≤ v then ⌊v⌋ else ⌈v⌉

/-! ## The invariant -/

/-- Memory keeps its canonical form, MXCSR bits 31:16 stay 0 (spec/10_state.md R28), the pc stays in the address width of
the mode (R37, R46). -/
structure State.Inv (s : State) : Prop where
  memory : memWf s.mem = true
  mxcsr  : s.mxcsr.extractLsb' 16 16 = 0
  pc     : s.pc.toNat < 2 ^ s.pcBits

end Sys2Proof.Machine
end

