-- ==== Sys2Proof/Certificates/Slice0/Obligations.lean ====
section
/-! DEFINITION. The statements about the machine that are to be proved. -/

open Sys2Proof Sys2Proof.Machine

/-! ## Encoding (spec/30_encoding.md) -/

/-- Decoding what the encoder writes gives the instruction back, whatever follows it, for every well-formed instruction of
every family and every operand value, and what is written has the length `L` of R104 (R91 to R105). -/
def Obligations.DecodeEncode : Prop :=
  ∀ (i : Instr) (rest : List Byte), i.wf = true →
    decode .mode64 (encode i ++ rest) = .instr i rest ∧ (encode i).length = i.length

/-- What the decoder of 64-bit mode accepts is well-formed, has 6 to 15 bytes, and the rest is what follows them (R104). -/
def Obligations.DecodedIsWellFormed : Prop :=
  ∀ (bs : List Byte) (i : Instr) (rest : List Byte), decode .mode64 bs = .instr i rest →
    i.wf = true ∧ 6 ≤ i.length ∧ i.length ≤ 15 ∧ ∃ taken, bs = taken ++ rest ∧ taken.length = i.length

/-- Words written out from R91 to R95 decode to the instructions they stand for, one of each shape:
VADDBF16 xmm1{k2}{z}, xmm2, xmm3; VCMPBF16 k1, zmm2, [rax+64]; VCOMXSD xmm1, xmm2 {sae}; VCVTTSD2SIS r8, xmm17;
VMOVD [rax], xmm2; VCVTPS2IBS zmm1, zmm2 {ru-sae}; VSQRTBF16 ymm1, [rax+2]{1to16}. -/
def Obligations.DecodeWords : Prop :=
  decode .mode64 [0x62, 0xF5, 0x6D, 0x8A, 0x58, 0xCB] = .instr (.vaddbf16 .v128 ⟨1, 2, ⟨[], .reg 3⟩, 2, true⟩) [] ∧
  decode .mode64 [0x62, 0xF3, 0x6F, 0x48, 0xC2, 0x48, 0x01, 0x04] =
    .instr (.vcmpbf16 .v512 ⟨1, 2, ⟨[], .mem (.base 0 (.d8 1))⟩, 0⟩ 4) [] ∧
  decode .mode64 [0x62, 0xF1, 0xFF, 0x18, 0x2F, 0xCA] = .instr (.vcomxsd ⟨1, ⟨[], .regSae 2⟩⟩) [] ∧
  decode .mode64 [0x62, 0x35, 0xFF, 0x08, 0x6D, 0xC1] = .instr (.vcvttsd2sisR64 ⟨8, ⟨[], .reg 17⟩⟩) [] ∧
  decode .mode64 [0x62, 0xF1, 0x7D, 0x08, 0xD6, 0x10] = .instr (.vmovdStore ⟨2, ⟨[], .mem (.base 0 .none)⟩⟩) [] ∧
  decode .mode64 [0x62, 0xF5, 0x7D, 0x58, 0x69, 0xCA] = .instr (.vcvtps2ibs .v512 ⟨1, ⟨[], .regEr 2 2⟩, 0, false⟩) [] ∧
  decode .mode64 [0x62, 0xF5, 0x7D, 0x38, 0x51, 0x48, 0x01] =
    .instr (.vsqrtbf16 .v256 ⟨1, ⟨[], .bcst (.base 0 (.d8 1))⟩, 0, false⟩) []

/-- A LOCK, F2, F3, 66 or REX byte before an instruction makes it #UD in 64-bit mode (R91, R108 e). -/
def Obligations.LeadBytesUndefined : Prop :=
  ∀ (i : Instr) (b : Byte) (rest : List Byte), i.wf = true → i.length < 15 →
    (b = 0xF0 ∨ b = 0xF2 ∨ b = 0xF3 ∨ b = 0x66 ∨ (0x40 ≤ b ∧ b ≤ 0x4F)) →
    decode .mode64 (b :: (encode i ++ rest)) = .invalid

/-- In 64-bit mode an encoding of R110 whose bytes are all there, with a register or with memory, decodes to an instruction
when its prefix fields meet every condition (f) to (j) of R108, and raises #UD when they fail one. The predicates are the
spec's own decisions D11, D24 and D27 (log entry 1). -/
def Obligations.ReservedFieldsUndefined : Prop :=
  ∀ (op : Op) (p0 p1 p2 opcode modrm : Byte) (tail : List Byte),
    Op.find (p0.extractLsb' 0 3) (p1.extractLsb' 0 2) (p1.getLsbD 7) opcode = some op →
    modrm.extractLsb' 6 2 = 3#2 ∧ 1 ≤ tail.length ∨ 6 ≤ tail.length →
    let isReg := modrm.extractLsb' 6 2 = 3#2
    let legal :=
      p0.getLsbD 3 = false ∧ p1.getLsbD 2 = true ∧
      (op.info.usesV = false → p1.extractLsb' 3 4 = 15#4 ∧ p2.getLsbD 3 = true) ∧
      (op.info.dest = .opmask → p0.getLsbD 7 = true ∧ p0.getLsbD 4 = true) ∧
      (op.info.dest = .general → p0.getLsbD 4 = true) ∧
      (op.info.masked = false → p2.extractLsb' 0 3 = 0#3 ∧ p2.getLsbD 7 = false) ∧
      (op.info.zeroing = false → p2.getLsbD 7 = false) ∧
      (p2.getLsbD 7 = true → p2.extractLsb' 0 3 ≠ 0#3) ∧
      (p2.getLsbD 4 = true → isReg → op.info.regB ≠ .none) ∧
      (p2.getLsbD 4 = true → ¬ isReg → op.info.bcst = true) ∧
      (¬ (isReg ∧ p2.getLsbD 4 = true) → op.info.len = .packed → p2.extractLsb' 5 2 ≠ 3#2) ∧
      (¬ (isReg ∧ p2.getLsbD 4 = true) → op.info.len = .only128 → p2.extractLsb' 5 2 = 0#2)
    (legal → ∃ i r, i.op = op ∧
      decode .mode64 (0x62 :: p0 :: p1 :: p2 :: opcode :: modrm :: tail) = .instr i r) ∧
    (¬ legal → decode .mode64 (0x62 :: p0 :: p1 :: p2 :: opcode :: modrm :: tail) = .invalid)

/-- The bytes of a full memory operand and of a broadcast element, form by form (spec/20_memory.md R65). -/
def Obligations.OperandSizes : Prop :=
  ∀ (op : Op) (vl : VL),
    op.memBytes vl =
      (if op ∈ [.vcvthf82ph, .vcvttps2qqs, .vcvttps2uqqs] then vl.bits / 16
       else if op ∈ [.vcomisbf16, .vcomxsh, .vucomxsh, .vminmaxsh, .vmovwLoad, .vmovwStore] then 2
       else if op ∈ [.vcomxss, .vucomxss, .vminmaxss, .vcvttss2sisR32, .vcvttss2sisR64, .vcvttss2usisR32,
         .vcvttss2usisR64, .vmovdLoad, .vmovdStore] then 4
       else if op ∈ [.vcomxsd, .vucomxsd, .vminmaxsd, .vcvttsd2sisR32, .vcvttsd2sisR64, .vcvttsd2usisR32,
         .vcvttsd2usisR64] then 8
       else vl.bits / 8) ∧
    (op.info.bcst = true → op.info.elem =
      (if op ∈ [.vcvt2ps2phx, .vdphphs, .vpdpbssd, .vpdpbssds, .vpdpbsud, .vpdpbsuds, .vpdpbuud, .vpdpbuuds, .vpdpwsud,
         .vpdpwsuds, .vpdpwusd, .vpdpwusds, .vpdpwuud, .vpdpwuuds, .vminmaxps, .vcvtps2ibs, .vcvtps2iubs, .vcvttps2ibs,
         .vcvttps2iubs, .vcvttps2dqs, .vcvttps2udqs, .vcvttps2qqs, .vcvttps2uqqs] then 4
       else if op ∈ [.vminmaxpd, .vcvttpd2dqs, .vcvttpd2qqs, .vcvttpd2udqs, .vcvttpd2uqqs] then 8
       else 2))

/-! ## The step -/

/-- Where the bytes at pc decode to an instruction, the step is `exec` of it; where they are an undefined encoding, the step
raises #UD; other bytes are refused by name (R114; the refusals are the model's, log entries 16 and 17). -/
def Obligations.StepRunsDecoded : Prop :=
  ∀ s : State,
    (∀ i rest, decode s.mode s.fetchBytes = .instr i rest → step s = exec i s) ∧
    (decode s.mode s.fetchBytes = .invalid → step s = raise .ud s) ∧
    (∀ r, decode s.mode s.fetchBytes = .rejected r → step s = .refused (refusalOf r))

/-- Where the bytes at pc are the encoding of a well-formed instruction, the step in 64-bit mode is `exec` of it; in real and
virtual-8086 mode the step raises #UD, where bits 7:6 of the byte after 62H are 11 (otherwise it is no EVEX prefix there,
R96; R108 a, R109). That the bytes are read from memory at pc, untranslated and without a fault, is the model's choice
(log entry 21). -/
def Obligations.StepRunsEncoded : Prop :=
  ∀ (i : Instr) (s : State), i.wf = true →
    (∀ (n : Nat) (h : n < (encode i).length), s.byteAt (s.pc + BitVec.ofNat 64 n) = (encode i)[n]) →
    (s.mode = .mode64 → step s = exec i s) ∧
    (s.mode = .real ∨ s.mode = .virtual8086 → i.parts.evex.r = false → i.parts.evex.x = false → step s = raise .ud s)

/-- The values after reset that the spec's table gives (spec/10_state.md R47, whose values are its own assumptions: the
source gives none). -/
def Obligations.ResetValues : Prop :=
  (∀ r, State.reset.vec r = 0) ∧ (∀ r, State.reset.opmask r = 0) ∧ State.reset.mxcsr = 0x00001F80 ∧
  State.reset.eflags = 0x00000002 ∧ State.reset.cr0.getLsbD 3 = false ∧ State.reset.cr4.getLsbD 18 = false ∧
  State.reset.cr4.getLsbD 10 = false ∧ State.reset.xcr0 = 1 ∧ State.reset.cpuid.avx10v2 = true ∧
  State.reset.cpuid.vnniInt = true

/-- The invariant holds after reset. -/
def Obligations.ResetInv : Prop := State.reset.Inv

/-- Every step keeps the invariant: memory in its canonical form, MXCSR bits 31:16 zero, pc inside the address width. -/
def Obligations.StepKeepsInv : Prop := ∀ s t : State, s.Inv → step s = .next t → t.Inv

/-! ## When an instruction runs -/

/-- With CR4.OSXSAVE (bit 18) = 0 every instruction raises #UD in every mode, and in real and virtual-8086 mode whatever
OSXSAVE is (spec/10_state.md R38). -/
def Obligations.OsxsaveClearRaisesUd : Prop :=
  ∀ (i : Instr) (s : State), s.cr4.getLsbD 18 = false ∨ s.mode = .real ∨ s.mode = .virtual8086 → exec i s = raise .ud s

/-- In real and virtual-8086 mode, with one of the five XCR0 bits clear, or without the CPUID feature of the form, every
instruction raises #UD (R108 a, c, d; the XCR0 predicate is the spec's own, spec/10_state.md R41). -/
def Obligations.NotEnabledRaisesUd : Prop :=
  ∀ (i : Instr) (s : State),
    let avx10v2 := s.cpuid.leaf7s1Edx.getLsbD 19 = true ∧ 2 ≤ (s.cpuid.leaf24s0Ebx.extractLsb' 0 8).toNat
    let either := i.op ∈ [.vpdpbssd, .vpdpbssds, .vpdpbsud, .vpdpbsuds, .vpdpbuud, .vpdpbuuds, .vpdpwsud, .vpdpwsuds,
      .vpdpwusd, .vpdpwusds, .vpdpwuud, .vpdpwuuds]
    (s.mode = .real ∨ s.mode = .virtual8086 ∨ s.xcr0.getLsbD 1 = false ∨ s.xcr0.getLsbD 2 = false ∨
      s.xcr0.getLsbD 5 = false ∨ s.xcr0.getLsbD 6 = false ∨ s.xcr0.getLsbD 7 = false ∨
      (¬ avx10v2 ∧ (either → s.cpuid.leaf24s1Ecx.getLsbD 2 = false))) →
    exec i s = raise .ud s

/-- With CR0.TS (bit 3) = 1 every instruction raises #NM, but for the #UD conditions (spec/10_state.md R40); that those come
first is the spec's decision D7 (spec/60_exceptions.md R433; log entry 1). -/
def Obligations.TaskSwitchedRaisesNm : Prop :=
  ∀ (i : Instr) (s : State), s.cr0.getLsbD 3 = true →
    exec i s = if s.undefinedHere i.op.info.feature then raise .ud s else raise .nm s

/-- A completed instruction moves the pc by its length, within the address width; the only refusal of an instruction is a
pc that would leave it (spec/10_state.md R46, a decision of the spec). -/
def Obligations.PcAdvances : Prop :=
  ∀ (i : Instr) (s : State),
    (∀ t, exec i s = .next t → t.pc = s.pc + BitVec.ofNat 64 i.length ∧ s.pc.toNat + i.length < 2 ^ s.pcBits) ∧
    (∀ r, exec i s = .refused r → r = .pcOverflow ∧ 2 ^ s.pcBits ≤ s.pc.toNat + i.length)

/-- A fault leaves the state before the instruction, but for MXCSR flags that a SIMD floating-point exception records, and
only the classes that consult the masks raise one, without SAE (spec/60_exceptions.md R428, R432, R434). -/
def Obligations.FaultsArePrecise : Prop :=
  ∀ (i : Instr) (s : State) (f : Fault), exec i s = .fault f →
    ∃ F : Flags, f.state = { s with mxcsr := s.mxcsr ||| F.setWidth 32 } ∧
      (F ≠ 0 ∨ f.exc = .xm →
        i.op.info.cls.consultsMasks = true ∧ i.parts.raw.rm.loc.sae = false ∧ F &&& ~~~s.masks ≠ 0 ∧
          (f.exc = .xm ∨ f.exc = .ud))

/-- CR4.OSXMMEXCPT (bit 10) selects what an unmasked SIMD floating-point exception raises: #XM if 1, #UD if 0
(spec/10_state.md R39). Let `F` be the flags an instruction signals, which are those it records where all are masked and
none is set. If it consults the masks and one of `F` is unmasked, it raises #XM or #UD by that bit; otherwise it completes
as there. An enabled instruction raises #XM and #UD for no other reason. That `F` is in MXCSR when it raises is the spec's
decision D10 (log entry 12, unsafe); that nothing is signalled under SAE is its decision D12. -/
def Obligations.OsxmmexcptSelects : Prop :=
  ∀ (i : Instr) (s : State),
    (∀ t, exec i s.allMasked = .next t →
      let F : Flags := t.mxcsr.extractLsb' 0 6
      exec i s =
        if i.op.info.cls.consultsMasks = true ∧ F &&& ~~~s.masks ≠ 0 then
          raise (if s.cr4.getLsbD 10 then .xm else .ud) { s with mxcsr := s.mxcsr ||| F.setWidth 32 }
        else .next { t with mxcsr := s.mxcsr ||| F.setWidth 32 }) ∧
    ∀ f : Fault, exec i s = .fault f →
      (f.exc = .xm → s.cr4.getLsbD 10 = true) ∧ (f.exc = .ud → Ready s i.op → s.cr4.getLsbD 10 = false)

/-! ## What an instruction leaves alone -/

/-- MXCSR: flags are only added, only those of the table of spec/10_state.md R30, none under SAE, and where the masks are
consulted only masked ones; bits 31:6 stay (R29, R31). -/
def Obligations.MxcsrFrame : Prop :=
  ∀ (i : Instr) (s t : State), exec i s = .next t →
    ∃ F : Flags, t.mxcsr = s.mxcsr ||| F.setWidth 32 ∧ (∀ b, F.getLsbD b = true → b ∈ i.op.settable) ∧
      (i.parts.raw.rm.loc.sae = true → F = 0) ∧ (i.op.info.cls.consultsMasks = true → F &&& ~~~s.masks = 0)

/-- EFLAGS is written by the seven compares only, and of it only the six status flags (spec/10_state.md R33); the control
registers and the enumeration stay. That no instruction changes the mode and the privilege level is the spec's decision D2
(log entry 4), that none changes the segment bases and the translation is the model's choice (log entries 6 and 7). -/
def Obligations.SystemFrame : Prop :=
  ∀ (i : Instr) (s t : State), exec i s = .next t →
    (i.op ∉ [.vcomisbf16, .vcomxsd, .vcomxsh, .vcomxss, .vucomxsd, .vucomxsh, .vucomxss] → t.eflags = s.eflags) ∧
    (∀ b, b ∉ [0, 2, 4, 6, 7, 11] → t.eflags.getLsbD b = s.eflags.getLsbD b) ∧
    t.cr0 = s.cr0 ∧ t.cr4 = s.cr4 ∧ t.xcr0 = s.xcr0 ∧ t.cpuid = s.cpuid ∧ t.mode = s.mode ∧ t.cpl = s.cpl ∧
    t.segBase = s.segBase ∧ t.translation = s.translation

/-- Every vector, opmask and general register but the destination stays (spec/10_state.md R23, R25, R26). -/
def Obligations.RegisterFrame : Prop :=
  ∀ (i : Instr) (s t : State), exec i s = .next t →
    (∀ r, i.vectorDest ≠ some r → t.vec r = s.vec r) ∧ (∀ r, i.opmaskDest ≠ some r → t.opmask r = s.opmask r) ∧
    (∀ r, i.generalDest ≠ some r → t.general r = s.general r)

/-- Every byte of memory stays but those a store form writes: the bytes of its memory operand, each where the translation
of its linear address puts it (spec/20_memory.md R61). -/
def Obligations.MemoryFrame : Prop :=
  ∀ (i : Instr) (s t : State), memWf s.mem = true → exec i s = .next t →
    ∀ a : Address,
      (∀ m o, i.op.target = .store → memoryAccess i s = some m → o < m.size →
        a ≠ s.physical m o) →
      t.byteAt a = s.byteAt a

/-- The destination vector register is written whole: above the bits that the form fills it is zero
(spec/10_state.md R21). -/
def Obligations.UpperBitsZero : Prop :=
  ∀ (i : Instr) (s t : State) (r : VReg), exec i s = .next t → i.vectorDest = some r →
    ∀ b, i.op.destBits i.parts.vl ≤ b → (t.vec r).getLsbD b = false

/-- Classes E4, E9NF and E10NF and VMPSADBW neither read nor write MXCSR: another MXCSR changes nothing else of the outcome
(spec/60_exceptions.md R424, R429, R431; spec/10_state.md R30). -/
def Obligations.MxcsrIndependent : Prop :=
  ∀ (i : Instr) (s : State) (m : BitVec 32),
    (i.op.info.cls = .e4 ∨ i.op.info.cls = .e9nf ∨ i.op.info.cls = .e10nf ∨ i.op = .vmpsadbw) →
    exec i { s with mxcsr := m } = outMapState (fun t => { t with mxcsr := m }) (exec i s)

/-- No instruction is privileged: without alignment checking the privilege level changes nothing of the outcome
(spec/60_exceptions.md R436; that CR0.AM and EFLAGS.AC enable the check is log entry 13). -/
def Obligations.PrivilegeIndependent : Prop :=
  ∀ (i : Instr) (s : State) (c : BitVec 2), (s.cr0.getLsbD 18 = false ∨ s.eflags.getLsbD 18 = false) →
    exec i { s with cpl := c } = outMapState (fun t => { t with cpl := c }) (exec i s)

/-! ## Memory operands (spec/20_memory.md) -/

/-- The address of a memory operand: the segment is the one of the last override (log entry 14), else SS for a base register
RSP or RBP and DS otherwise; the offset is Base + Index*Scale + Disp, the byte displacement counting in operand sizes (R62,
R63). In 64-bit mode only FS and GS have bases and 67H reduces the offset to 32 bits (log entry 19); in the other modes
every segment has a base, offset and address are taken modulo 2^32, and a displacement alone is absolute (log entry 18).
Where the bases are held is log entry 6. -/
def Obligations.EffectiveAddress : Prop :=
  ∀ (i : Instr) (s : State) (m : MemAccess) (a : Addr),
    i.parts.raw.rm.loc.addr = some a → memoryAccess i s = some m →
    let low : BitVec 64 → BitVec 64 := fun x => (x.setWidth 32).setWidth 64
    let overrides : List Seg := i.parts.raw.rm.pfx.filterMap fun p =>
      match p with
      | .seg g => some g
      | .addr32 => none
    let standard : Seg :=
      match a with
      | .base b _ | .sib _ _ b _ => if b = 4 ∨ b = 5 then .ss else .ds
      | .disp32 _ | .sibDisp32 _ _ _ => .ds
    let disp : Disp → BitVec 64 := fun d =>
      match d with
      | .none => 0
      | .d8 v => v.signExtend 64 * BitVec.ofNat 64 m.size
      | .d32 v => v.signExtend 64
    let index : BitVec 2 → GReg → BitVec 64 := fun scale x => if x = 4 then 0 else s.general x * 2 ^ scale.toNat
    let offset : BitVec 64 :=
      match a with
      | .base b d => s.general b + disp d
      | .disp32 d => (if s.mode = .mode64 then s.pc + BitVec.ofNat 64 i.length else 0) + d.signExtend 64
      | .sib scale x b d => s.general b + index scale x + disp d
      | .sibDisp32 scale x d => index scale x + d.signExtend 64
    let base : BitVec 64 :=
      match m.seg with
      | .fs => s.segBase.fs
      | .gs => s.segBase.gs
      | .es => if s.mode = .mode64 then 0 else s.segBase.es
      | .cs => if s.mode = .mode64 then 0 else s.segBase.cs
      | .ss => if s.mode = .mode64 then 0 else s.segBase.ss
      | .ds => if s.mode = .mode64 then 0 else s.segBase.ds
    m.seg = overrides.getLast?.getD standard ∧
    (s.mode = .mode64 → m.ea = base + (if .addr32 ∈ i.parts.raw.rm.pfx then low offset else offset)) ∧
    (s.mode ≠ .mode64 → m.ea = low (base + low offset))

/-- Which bytes are accessed: all of the operand, but under fault suppression (classes E2, E3, E4) only those of the
elements that the write mask selects, and the broadcast element only if some element is selected (R65, R71, R72; the
meaning of fault suppression is the spec's own). -/
def Obligations.AccessedBytes : Prop :=
  ∀ (i : Instr) (s : State) (m : MemAccess), memoryAccess i s = some m →
    (m.size = if i.parts.raw.rm.loc.isBcst = true ∧ i.op.target ≠ .store then i.op.info.elem
      else i.op.memBytes i.parts.vl) ∧
    ∀ o, o ∈ m.offs ↔ o < m.size ∧
      (i.op.info.cls = .e2 ∨ i.op.info.cls = .e3 ∨ i.op.info.cls = .e4 →
        if i.parts.raw.rm.loc.isBcst then ∃ j, j < i.op.memCount i.parts.vl ∧ s.active i.parts.raw.aaa j = true
        else s.active i.parts.raw.aaa (o / i.op.info.elem) = true)

/-- The memory faults and their order: #SS(0) or #GP(0) for an illegal address among the accessed bytes, then #PF with the
code of the lowest faulting byte, then #AC(0) for an unaligned access of 2, 4 or 8 bytes at CPL 3 with alignment checking
on (R69, R70; spec/60_exceptions.md R433; the order is the spec's decision, log entry 11). -/
def Obligations.MemoryFaultTaken : Prop :=
  ∀ (i : Instr) (s : State) (m : MemAccess), Ready s i.op → memoryAccess i s = some m →
    ((∃ o ∈ m.offs, m.kindAt s o = .illegal) → exec i s = raise (if m.seg = .ss then .ss else .gp) s) ∧
    (∀ o c, (∀ o' ∈ m.offs, m.kindAt s o' ≠ .illegal) → o ∈ m.offs → m.kindAt s o = .pageFault c →
      (∀ o' ∈ m.offs, o' < o → (m.kindAt s o').isMapped = true) → exec i s = raise (.pf c) s) ∧
    ((∀ o ∈ m.offs, (m.kindAt s o).isMapped = true) → m.offs ≠ [] → s.cr0.getLsbD 18 = true →
      s.eflags.getLsbD 18 = true → s.cpl = 3 → (m.size = 2 ∨ m.size = 4 ∨ m.size = 8) → m.ea.toNat % m.size ≠ 0 →
      exec i s = raise .ac s)

/-- A source can be read when r/m is a register, or when every accessed byte of a full memory operand is mapped and no
alignment check applies; byte `o` of the operand is then the byte at its address, lowest address first, and 0 where
nothing is accessed (R64, whose byte order is the spec's decision; what a suppressed element reads as has no effect). -/
def Obligations.SourceIsReadable : Prop :=
  ∀ (i : Instr) (s : State),
    (∀ r, i.parts.raw.rm.loc.register = some r → s.source i.op i.parts.vl i.parts.raw = .ok (s.vec r)) ∧
    (∀ m a, i.op.target ≠ .store → i.parts.raw.rm.loc = .mem a → memoryAccess i s = some m →
      (∀ o ∈ m.offs, (m.kindAt s o).isMapped = true) →
      (s.cr0.getLsbD 18 = true ∧ s.eflags.getLsbD 18 = true ∧ s.cpl = 3 ∧ m.size ∈ [2, 4, 8] →
        m.ea.toNat % m.size = 0) →
      ∃ x, s.source i.op i.parts.vl i.parts.raw = .ok x ∧
        ∀ o, o < 64 → lane 8 o x = if o ∈ m.offs then m.byteAt s o else 0)

/-- Embedded broadcast reads one element of 2, 4 or 8 bytes and uses it as every element; no byte beyond it is touched
(R66). -/
def Obligations.BroadcastReplicates : Prop :=
  ∀ (i : Instr) (s : State) (m : MemAccess) (a : Addr),
    i.op.info.bcst = true → i.parts.raw.rm.loc = .bcst a → memoryAccess i s = some m →
    (i.op.info.cls.suppresses = true → ∃ j, j < i.op.memCount i.parts.vl ∧ s.active i.parts.raw.aaa j = true) →
    (∀ o, o < i.op.info.elem → (m.kindAt s o).isMapped = true) →
    (s.cr0.getLsbD 18 = true ∧ s.eflags.getLsbD 18 = true ∧ s.cpl = 3 → m.ea.toNat % m.size = 0) →
    i.op.info.elem ∈ [2, 4, 8] ∧ m.offs = List.range i.op.info.elem ∧
      ∃ x, s.source i.op i.parts.vl i.parts.raw = .ok x ∧
        ∀ j o, j < 64 / i.op.info.elem → o < i.op.info.elem → lane 8 (i.op.info.elem * j + o) x = m.byteAt s o

/-! ## BF16 arithmetic (spec/41_bf16_arith.md) -/

/-- VADDBF16, VSUBBF16, VMULBF16, VDIVBF16, VSCALEFBF16 complete: element `j` is the operation on element `j` of the first
source and of the r/m source; no flag is recorded. On numbers the last of them is the first operand after DAZ times two to
the floor of the second, flushed below the normal range and infinite above it (R210; the lines on infinities are the spec's
decision D14). -/
def Obligations.Bf16BinaryResults : Prop :=
  (∀ c f, (c, f) ∈ [(Instr.vaddbf16, bf16.add), (Instr.vsubbf16, bf16.sub), (Instr.vmulbf16, bf16.mul),
      (Instr.vdivbf16, bf16.div), (Instr.vscalefbf16, scalefBf16)] →
    ∀ (vl : VL) (o : VecOp3) (s : State) (x : Zmm), Runs (c vl o) s x →
      VectorDone (c vl o) s 0 16 (vl.bits / 16) fun j =>
        BitVec.ofNat 16 (f (lane 16 j (s.vec o.src1)).toNat (lane 16 j x).toNat)) ∧
  ∀ a b : Nat, a < 2 ^ 16 → b < 2 ^ 16 → bf16.isNaN a = false → bf16.isNaN b = false →
    let va := bf16.rat (bf16.daz a)
    let r := scalefBf16 a b
    (bf16.isInf b = true → bf16.sign b = false →
      r = if bf16.isZero (bf16.daz a) then 0xFFC0 else bf16.inf (bf16.sign a)) ∧
    (bf16.isInf b = true → bf16.sign b = true → r = if bf16.isInf a then 0xFFC0 else bf16.zero (bf16.sign a)) ∧
    (bf16.isFinite b = true → bf16.isZero (bf16.daz a) = true ∨ bf16.isInf a = true → r = bf16.daz a) ∧
    (bf16.isFinite b = true → bf16.isFinite a = true → va ≠ 0 →
      let v : ℚ := va * (2 : ℚ) ^ ⌊bf16.rat (bf16.daz b)⌋
      (|v| < (2 : ℚ) ^ (-126 : ℤ) → r = bf16.zero (bf16.sign a)) ∧
      ((2 : ℚ) ^ 128 ≤ |v| → r = bf16.inf (bf16.sign a)) ∧
      ((2 : ℚ) ^ (-126 : ℤ) ≤ |v| → |v| < (2 : ℚ) ^ 128 → bf16.isFinite r = true ∧ bf16.rat r = v))

/-- VMAXBF16 and VMINBF16 complete with the selection of R207 and R208 on the operands after DAZ: the second source where
both are zeros or one is a NaN, the first where it is greater (less), else the second. -/
def Obligations.Bf16MaxMinResults : Prop :=
  ∀ c (first : Rel), (c, first) ∈ [(Instr.vmaxbf16, Rel.gt), (Instr.vminbf16, Rel.lt)] →
    ∀ (vl : VL) (o : VecOp3) (s : State) (x : Zmm), Runs (c vl o) s x →
      VectorDone (c vl o) s 0 16 (vl.bits / 16) fun j =>
        let a := bf16.daz (lane 16 j (s.vec o.src1)).toNat
        let b := bf16.daz (lane 16 j x).toNat
        BitVec.ofNat 16
          (if bf16.isZero a && bf16.isZero b then b else if bf16.isNaN a || bf16.isNaN b then b
           else if bf16.rel a b = first then a else b)

/-- The twelve FMA forms complete: the roles of the old destination, the VVVV source and the r/m source by form, the product
and the addend negated by name, one rounding; the first NaN in operand order is the result, quieted (R211 to R223). -/
def Obligations.Bf16FmaResults : Prop :=
  let o132 : Nat → Nat → Nat → Nat × Nat × Nat := fun d s2 s3 => (d, s3, s2)
  let o213 : Nat → Nat → Nat → Nat × Nat × Nat := fun d s2 s3 => (s2, d, s3)
  let o231 : Nat → Nat → Nat → Nat × Nat × Nat := fun d s2 s3 => (s2, s3, d)
  ∀ c roles negProduct negAddend, (c, roles, negProduct, negAddend) ∈
      [(Instr.vfmadd132bf16, o132, false, false), (Instr.vfmadd213bf16, o213, false, false),
       (Instr.vfmadd231bf16, o231, false, false), (Instr.vfmsub132bf16, o132, false, true),
       (Instr.vfmsub213bf16, o213, false, true), (Instr.vfmsub231bf16, o231, false, true),
       (Instr.vfnmadd132bf16, o132, true, false), (Instr.vfnmadd213bf16, o213, true, false),
       (Instr.vfnmadd231bf16, o231, true, false), (Instr.vfnmsub132bf16, o132, true, true),
       (Instr.vfnmsub213bf16, o213, true, true), (Instr.vfnmsub231bf16, o231, true, true)] →
    ∀ (vl : VL) (o : VecOp3) (s : State) (x : Zmm), Runs (c vl o) s x →
      VectorDone (c vl o) s 0 16 (vl.bits / 16) fun j =>
        let d := (lane 16 j (s.vec o.dest)).toNat
        let s2 := (lane 16 j (s.vec o.src1)).toNat
        let s3 := (lane 16 j x).toNat
        let r := roles d s2 s3
        BitVec.ofNat 16
          (if bf16.isNaN d then bf16.quiet d else if bf16.isNaN s2 then bf16.quiet s2
           else if bf16.isNaN s3 then bf16.quiet s3 else bf16.fmaCore negProduct negAddend r.1 r.2.1 r.2.2)

/-- VSQRTBF16, VGETEXPBF16, VRCPBF16, VRSQRTBF16 and, with their immediate, VGETMANTBF16, VREDUCEBF16, VRNDSCALEBF16
complete: element `j` is the function of element `j` of the source; no flag is recorded (R209, R234 to R239). The values
of the two approximations are bounded, not given: log entry 23. VGETEXPBF16 gives the exponent of a normal number as a
number, +inf for an infinity (decision D30), -inf for a zero or denormal; VGETMANTBF16 scales the source after DAZ by a
power of two (an even one for interval 1) into the interval of imm8[1:0], with the sign control imm8[3:2] (R235, decision
D31). -/
def Obligations.Bf16UnaryResults : Prop :=
  (∀ c f, (c, f) ∈ [(Instr.vsqrtbf16, bf16.sqrt), (Instr.vgetexpbf16, getexpBf16), (Instr.vrcpbf16, rcpBf16),
      (Instr.vrsqrtbf16, rsqrtBf16)] →
    ∀ (vl : VL) (o : VecOp2) (s : State) (x : Zmm), Runs (c vl o) s x →
      VectorDone (c vl o) s 0 16 (vl.bits / 16) fun j => BitVec.ofNat 16 (f (lane 16 j x).toNat)) ∧
  (∀ c f, (c, f) ∈ [(Instr.vgetmantbf16, getmantBf16), (Instr.vreducebf16, reduceBf16),
      (Instr.vrndscalebf16, rndscaleBf16)] →
    ∀ (vl : VL) (o : VecOp2) (imm : BitVec 8) (s : State) (x : Zmm), Runs (c vl o imm) s x →
      VectorDone (c vl o imm) s 0 16 (vl.bits / 16) fun j => BitVec.ofNat 16 (f imm (lane 16 j x).toNat)) ∧
  ∀ x : Nat, x < 2 ^ 16 →
    (bf16.isNaN x = true → getexpBf16 x = bf16.quiet x ∧ ∀ imm, getmantBf16 imm x = bf16.quiet x) ∧
    (bf16.isInf x = true → getexpBf16 x = 0x7F80) ∧
    (bf16.exp x = 0 → getexpBf16 x = 0xFF80) ∧
    (∀ e : ℤ, bf16.isFinite x = true → bf16.exp x ≠ 0 → (2 : ℚ) ^ e ≤ |bf16.rat x| → |bf16.rat x| < (2 : ℚ) ^ (e + 1) →
      bf16.isFinite (getexpBf16 x) = true ∧ bf16.rat (getexpBf16 x) = e ∧ (e = 0 → getexpBf16 x = 0)) ∧
    ∀ imm : BitVec 8,
      let y := bf16.daz x
      let r := getmantBf16 imm x
      let minusOne := if imm.getLsbD 2 then 0x3F80 else 0xBF80
      (bf16.isZero y = true ∨ bf16.isInf y = true → bf16.sign x = false → r = 0x3F80) ∧
      (bf16.isZero y = true → bf16.sign x = true → r = minusOne) ∧
      (bf16.isInf y = true → bf16.sign x = true → r = if imm.getLsbD 3 then 0xFFC0 else minusOne) ∧
      (bf16.isFinite y = true → bf16.isZero y = false →
        if bf16.sign x = true ∧ imm.getLsbD 3 = true then r = 0xFFC0
        else
          bf16.isFinite r = true ∧ bf16.sign r = (bf16.sign x && !imm.getLsbD 2) ∧
          (∃ k : ℤ, |bf16.rat r| = |bf16.rat y| * (2 : ℚ) ^ k ∧ (imm.extractLsb' 0 2 = 1#2 → k % 2 = 0)) ∧
          (imm.extractLsb' 0 2 = 0#2 → 1 ≤ |bf16.rat r| ∧ |bf16.rat r| < 2) ∧
          (imm.extractLsb' 0 2 = 1#2 → 1 / 2 ≤ |bf16.rat r| ∧ |bf16.rat r| < 2) ∧
          (imm.extractLsb' 0 2 = 2#2 → 1 / 2 ≤ |bf16.rat r| ∧ |bf16.rat r| < 1) ∧
          (imm.extractLsb' 0 2 = 3#2 → 3 / 4 ≤ |bf16.rat r| ∧ |bf16.rat r| < 3 / 2))

/-- Sums, differences, products and fused multiply-adds of BF16 and FP32 patterns that are no NaN. Finite operands: the exact
result of the operands after DAZ, rounded to nearest even, flushed below the normal range, infinite above it; an exact zero
has the sign of its terms where they agree, the product of the signs in a product, + otherwise. Infinite operands that are
no invalid combination: the infinity of the usual limit (R201; R311 for FP32). That the flush is judged after rounding is
the spec's decision D13 (log entry 1), the signs of zeros are its general knowledge. -/
def Obligations.SumsProductsRounded : Prop :=
  ∀ f ∈ [bf16, fp32], ∀ a b c : Nat,
    a < 2 ^ (1 + f.ebits + f.fbits) → b < 2 ^ (1 + f.ebits + f.fbits) → c < 2 ^ (1 + f.ebits + f.fbits) →
    f.isNaN a = false → f.isNaN b = false → f.isNaN c = false →
    let va := f.rat (f.daz a)
    let vb := f.rat (f.daz b)
    let vc := f.rat (f.daz c)
    let sa := f.sign a
    let sb := f.sign b
    (f.isFinite a = true → f.isFinite b = true →
      (va + vb ≠ 0 → FlushedRound f ((va + vb : ℚ) : ℝ) (f.add a b)) ∧
      (va + vb = 0 → f.add a b = f.zero (sa && sb)) ∧
      (va - vb ≠ 0 → FlushedRound f ((va - vb : ℚ) : ℝ) (f.sub a b)) ∧
      (va - vb = 0 → f.sub a b = f.zero (sa && !sb)) ∧
      (va * vb ≠ 0 → FlushedRound f ((va * vb : ℚ) : ℝ) (f.mul a b)) ∧
      (va * vb = 0 → f.mul a b = f.zero (sa ^^ sb))) ∧
    (f.isInf a = true → (f.isInf b = true → sa = sb) → f.add a b = f.inf sa ∧ f.add b a = f.inf sa) ∧
    (f.isInf a = true → (f.isInf b = true → sa ≠ sb) → f.sub a b = f.inf sa ∧ f.sub b a = f.inf (!sa)) ∧
    (f.isInf a = true → f.isZero (f.daz b) = false → f.mul a b = f.inf (sa ^^ sb) ∧ f.mul b a = f.inf (sa ^^ sb)) ∧
    ∀ np na : Bool,
      let sp := sa ^^ sb ^^ np
      let sc := f.sign c ^^ na
      let v := (if np then -(va * vb) else va * vb) + (if na then -vc else vc)
      (f.isFinite a = true → f.isFinite b = true → f.isFinite c = true →
        (v ≠ 0 → FlushedRound f (v : ℝ) (f.fmaCore np na a b c)) ∧
        (v = 0 → f.fmaCore np na a b c = f.zero (sp && sc))) ∧
      (f.isFinite a = true → f.isFinite b = true → f.isInf c = true → f.fmaCore np na a b c = f.inf sc) ∧
      (f.isInf a = true → f.isZero (f.daz b) = false → (f.isInf c = true → sp = sc) →
        f.fmaCore np na a b c = f.inf sp ∧ f.fmaCore np na b a c = f.inf sp)

/-- Quotients and square roots of BF16 patterns that are no NaN. Finite operands, nonzero after DAZ: the exact result rounded
to nearest even and flushed. Zeros and infinities: a zero or finite over an infinity is a zero, a nonzero or infinite over
a zero an infinity, the sign that of the product; the root of a zero is that zero, of +inf it is +inf (R201, R206, R209).
That the flush is judged after rounding is the spec's decision D13 (log entry 1), the special cases are its general
knowledge. -/
def Obligations.QuotientsRootsRounded : Prop :=
  ∀ a b : Nat, a < 2 ^ 16 → b < 2 ^ 16 → bf16.isNaN a = false → bf16.isNaN b = false →
    let va := bf16.rat (bf16.daz a)
    let vb := bf16.rat (bf16.daz b)
    let sign := bf16.sign a ^^ bf16.sign b
    (bf16.isFinite a = true → bf16.isFinite b = true →
      (va ≠ 0 → vb ≠ 0 → FlushedRound bf16 ((va / vb : ℚ) : ℝ) (bf16.div a b)) ∧
      (va = 0 → vb ≠ 0 → bf16.div a b = bf16.zero sign) ∧
      (va ≠ 0 → vb = 0 → bf16.div a b = bf16.inf sign)) ∧
    (bf16.isInf a = true → bf16.isFinite b = true → bf16.div a b = bf16.inf sign) ∧
    (bf16.isFinite a = true → bf16.isInf b = true → bf16.div a b = bf16.zero sign) ∧
    (bf16.isFinite a = true → 0 < va → FlushedRound bf16 (Real.sqrt (va : ℝ)) (bf16.sqrt a)) ∧
    (bf16.isFinite a = true → va = 0 → bf16.sqrt a = bf16.zero (bf16.sign a)) ∧
    (bf16.isInf a = true → bf16.sign a = false → bf16.sqrt a = bf16.inf false)

/-- NaN operands and invalid combinations of the BF16 operations (R202, whose rules are the spec's own): the first NaN of
the sources is quieted; +inf - inf, 0 * inf, 0 / 0, inf / inf, the root of a negative number and the fused forms with such
a product or sum give 0xFFC0. -/
def Obligations.SpecialOperands : Prop :=
  ∀ a b c : Nat, a < 2 ^ 16 → b < 2 ^ 16 → c < 2 ^ 16 →
    (∀ f ∈ [bf16.add, bf16.sub, bf16.mul, bf16.div, scalefBf16],
      (bf16.isNaN a = true → f a b = bf16.quiet a) ∧
      (bf16.isNaN a = false → bf16.isNaN b = true → f a b = bf16.quiet b)) ∧
    (bf16.isNaN a = true → bf16.sqrt a = bf16.quiet a) ∧
    (bf16.isInf a = true → bf16.isInf b = true → bf16.sign a ≠ bf16.sign b → bf16.add a b = 0xFFC0) ∧
    (bf16.isInf a = true → bf16.isInf b = true → bf16.sign a = bf16.sign b → bf16.sub a b = 0xFFC0) ∧
    (bf16.isZero (bf16.daz a) = true → bf16.isInf b = true →
      bf16.mul a b = 0xFFC0 ∧ bf16.mul b a = 0xFFC0 ∧
        ∀ np na, bf16.fmaCore np na a b c = 0xFFC0 ∧ bf16.fmaCore np na b a c = 0xFFC0) ∧
    (bf16.isZero (bf16.daz a) = true → bf16.isZero (bf16.daz b) = true → bf16.div a b = 0xFFC0) ∧
    (bf16.isInf a = true → bf16.isInf b = true → bf16.div a b = 0xFFC0) ∧
    (bf16.isNaN a = false → bf16.isZero (bf16.daz a) = false → bf16.sign a = true → bf16.sqrt a = 0xFFC0) ∧
    (bf16.isInf a = true → bf16.isNaN b = false → bf16.isZero (bf16.daz b) = false → bf16.isInf c = true →
      ∀ np na, (bf16.sign a ^^ bf16.sign b ^^ np) ≠ (bf16.sign c ^^ na) → bf16.fmaCore np na a b c = 0xFFC0)

/-! ## BF16 compare, classify, approximate, round (spec/42_bf16_misc.md) -/

/-- VCMPBF16 and VFPCLASSBF16 complete: the bits of the opmask destination are the predicate of imm8[4:0] on the relation
of the operands after DAZ (R231, R240), and the class test of imm8 (R233); MXCSR stays. -/
def Obligations.OpmaskResults : Prop :=
  (∀ (vl : VL) (o : MaskOp3) (imm : BitVec 8) (s : State) (x : Zmm), Runs (.vcmpbf16 vl o imm) s x →
    OpmaskDone (.vcmpbf16 vl o imm) s o.dest (vl.bits / 16) fun j =>
      predicate (imm.toNat % 32)
        (bf16.rel (bf16.daz (lane 16 j (s.vec o.src1)).toNat) (bf16.daz (lane 16 j x).toNat))) ∧
  (∀ (vl : VL) (o : MaskOp2) (imm : BitVec 8) (s : State) (x : Zmm), Runs (.vfpclassbf16 vl o imm) s x →
    OpmaskDone (.vfpclassbf16 vl o imm) s o.dest (vl.bits / 16) fun j =>
      let y := bf16.daz (lane 16 j x).toNat
      (imm.getLsbD 0 && (bf16.isNaN y && y.testBit 6)) || (imm.getLsbD 1 && y == 0x0000) ||
      (imm.getLsbD 2 && y == 0x8000) || (imm.getLsbD 3 && y == 0x7F80) || (imm.getLsbD 4 && y == 0xFF80) ||
      (imm.getLsbD 6 && (bf16.isFinite y && y.testBit 15 && !bf16.isZero y)) ||
      (imm.getLsbD 7 && (bf16.isNaN y && !y.testBit 6)))

/-- The 16 predicates on the four relations, as the columns of R240 name them. -/
def Obligations.PredicateTable : Prop :=
  ∀ (p : Nat) (r : Rel), p < 32 →
    predicate p r =
      (let eq := decide (r = .eq)
       let lt := decide (r = .lt)
       let gt := decide (r = .gt)
       let un := decide (r = .un)
       match p % 8 with
       | 0 => if p % 16 < 8 then eq else eq || un
       | 1 => if p % 16 < 8 then lt else un || lt
       | 2 => if p % 16 < 8 then lt || eq else un || lt || eq
       | 3 => if p % 16 < 8 then un else false
       | 4 => if p % 16 < 8 then un || lt || gt else lt || gt
       | 5 => if p % 16 < 8 then un || gt || eq else gt || eq
       | 6 => if p % 16 < 8 then un || gt else gt
       | _ => if p % 16 < 8 then !un else true)

/-- VCOMISBF16 completes: ZF, PF, CF by the relation of the two low elements after DAZ, OF, AF, SF = 0, every other bit of
EFLAGS and all else unchanged, no flag recorded (R232). -/
def Obligations.Vcomisbf16Result : Prop :=
  Op.vcomisbf16.code = (5, 1, false, 0x2F) ∧ Op.vcomisbf16.info.len = .llig ∧ Op.vcomisbf16.info.usesV = false ∧
  Op.vcomisbf16.info.masked = false ∧ Op.vcomisbf16.info.cls = .e10nf ∧ Op.vcomisbf16.info.elem = 2 ∧
  ∀ (o : RegRm) (s : State) (x : Zmm), Runs (.vcomisbf16 o) s x →
    let a := bf16.daz (lane 16 0 (s.vec o.reg)).toNat
    let b := bf16.daz (lane 16 0 x).toNat
    (bf16.isNaN a = true ∨ bf16.isNaN b = true → StatusDone (.vcomisbf16 o) s 0 false false true false true true) ∧
    (bf16.isNaN a = false → bf16.isNaN b = false →
      (bf16.valueLt b a → StatusDone (.vcomisbf16 o) s 0 false false false false false false) ∧
      (bf16.valueLt a b → StatusDone (.vcomisbf16 o) s 0 false false false false false true) ∧
      (¬ bf16.valueLt b a → ¬ bf16.valueLt a b → StatusDone (.vcomisbf16 o) s 0 false false true false false false))

/-- The relation of two patterns is that of their values: unordered exactly with a NaN, less exactly when the first value
is less, greater when the second is, equal otherwise (R231; spec/43_compare_scalar.md R261). -/
def Obligations.RelationOfValues : Prop :=
  ∀ f ∈ [bf16, fp16, fp32, fp64], ∀ a b : Nat, a < 2 ^ (1 + f.ebits + f.fbits) → b < 2 ^ (1 + f.ebits + f.fbits) →
    (f.rel a b = .un ↔ f.isNaN a = true ∨ f.isNaN b = true) ∧
    (f.isNaN a = false → f.isNaN b = false →
      (f.rel a b = .lt ↔ f.valueLt a b) ∧ (f.rel a b = .gt ↔ f.valueLt b a))

/-- VRCPBF16 and VRSQRTBF16 stay within a relative error of 2^-8 + 2^-14, are exact on (even) powers of two, and give the
listed results elsewhere, whatever the implementation's approximation is (R236, R239; the values inside the bound are free,
log entry 23; the parameter and the flush are decisions of the spec). -/
def Obligations.ApproximationBounds : Prop :=
  ∀ x : Nat, x < 2 ^ 16 →
    (bf16.isNaN x = true → rcpBf16 x = bf16.quiet x ∧ rsqrtBf16 x = bf16.quiet x) ∧
    (bf16.exp x = 0 → rcpBf16 x = bf16.inf (bf16.sign x) ∧ rsqrtBf16 x = bf16.inf (bf16.sign x)) ∧
    (bf16.isInf x = true → rcpBf16 x = bf16.zero (bf16.sign x) ∧
      rsqrtBf16 x = if bf16.sign x then 0xFFC0 else 0) ∧
    (bf16.isFinite x = true → bf16.exp x ≠ 0 →
      ((2 : ℚ) ^ 126 < |bf16.rat x| → rcpBf16 x = bf16.zero (bf16.sign x)) ∧
      (|bf16.rat x| ≤ (2 : ℚ) ^ 126 → bf16.isFinite (rcpBf16 x) = true ∧
        |bf16.rat (rcpBf16 x) * bf16.rat x - 1| < 1 / 2 ^ 8 + 1 / 2 ^ 14 ∧
        (bf16.frac x = 0 → bf16.rat (rcpBf16 x) * bf16.rat x = 1)) ∧
      (bf16.sign x = true → rsqrtBf16 x = 0xFFC0) ∧
      (bf16.sign x = false → bf16.isFinite (rsqrtBf16 x) = true ∧ 0 < bf16.rat (rsqrtBf16 x) ∧
        |(bf16.rat (rsqrtBf16 x) : ℝ) * Real.sqrt (bf16.rat x : ℝ) - 1| < 1 / 2 ^ 8 + 1 / 2 ^ 14 ∧
        (∀ n : ℤ, bf16.rat x = 2 ^ (2 * n) → bf16.rat (rsqrtBf16 x) = 2 ^ (-n))))

/-- VRNDSCALEBF16 rounds a finite source to the nearest even multiple of 2^-M, M = imm8[7:4], keeping the sign of a zero;
VREDUCEBF16 gives the exact difference, +0 where it is zero; NaNs are quieted, infinities kept and reduced to +0
(R237 with the spec's decision D26, R238). -/
def Obligations.RoundAndReduceExact : Prop :=
  ∀ (imm : BitVec 8) (x : Nat), x < 2 ^ 16 →
    (bf16.isNaN x = true → rndscaleBf16 imm x = bf16.quiet x ∧ reduceBf16 imm x = bf16.quiet x) ∧
    (bf16.isInf x = true → rndscaleBf16 imm x = x ∧ reduceBf16 imm x = 0) ∧
    (bf16.isFinite x = true →
      let v := bf16.rat (bf16.daz x)
      let scale : ℚ := 2 ^ (imm.toNat / 16)
      let t : ℚ := RoundMode.rne.toIntegral (scale * v) / scale
      bf16.isFinite (rndscaleBf16 imm x) = true ∧ bf16.rat (rndscaleBf16 imm x) = t ∧
      (t = 0 → rndscaleBf16 imm x = bf16.zero (bf16.sign x)) ∧
      bf16.isFinite (reduceBf16 imm x) = true ∧ bf16.rat (reduceBf16 imm x) = v - t ∧
      (v - t = 0 → reduceBf16 imm x = 0))

/-! ## Scalar compares (spec/43_compare_scalar.md) -/

/-- The six compares: element 0 of both operands after MXCSR.DAZ (never for FP16); IE for a signaling NaN, and for a quiet
one in the VCOMX forms, else DE for a denormal operand without a NaN. With SAE or the flag masked it completes and OF, SF,
ZF, PF, CF follow the relation, AF = 0; otherwise it raises #XM, or #UD with CR4.OSXMMEXCPT = 0 (R261 to R269; the flag
priority and the recorded flags are decisions of the spec). -/
def Obligations.ScalarCompareResults : Prop :=
  ∀ c f w quietSignals dazed, (c, f, w, quietSignals, dazed) ∈
      [(Instr.vcomxsd, fp64, 64, true, true), (Instr.vcomxsh, fp16, 16, true, false),
       (Instr.vcomxss, fp32, 32, true, true), (Instr.vucomxsd, fp64, 64, false, true),
       (Instr.vucomxsh, fp16, 16, false, false), (Instr.vucomxss, fp32, 32, false, true)] →
    ∀ (o : RegRm) (s : State) (x : Zmm), Runs (c o) s x →
      let a := if dazed && s.mxcsr.getLsbD 6 then f.daz (lane w 0 (s.vec o.reg)).toNat else (lane w 0 (s.vec o.reg)).toNat
      let b := if dazed && s.mxcsr.getLsbD 6 then f.daz (lane w 0 x).toNat else (lane w 0 x).toNat
      let nan := f.isNaN a || f.isNaN b
      let F : Flags :=
        if f.isSNaN a || f.isSNaN b || (nan && quietSignals) then 1
        else if !nan && (f.isDenormal a || f.isDenormal b) then 2 else 0
      let recorded : Flags := if o.rm.loc.sae then 0 else F
      (Quiet s o.rm.loc F →
        match f.rel a b with
        | .un => StatusDone (c o) s recorded true true false false true true
        | .gt => StatusDone (c o) s recorded false false false false false false
        | .lt => StatusDone (c o) s recorded true false false false false true
        | .eq => StatusDone (c o) s recorded true true true false false false) ∧
      (¬ Quiet s o.rm.loc F → exec (c o) s = raise (if s.cr4.getLsbD 10 then .xm else .ud) (s.orFlags F))

/-! ## FP8 and FP16 converts (spec/44_convert_fp8.md) -/

/-- The twelve converts from FP16 to FP8 complete whatever the MXCSR masks are: one-source forms fill half the vector
length, two-source forms take the low half of the result from the r/m source, bias forms add byte `2j` of the first source;
the flags of the processed elements are recorded (R281 to R296; the flag conditions are the spec's decision). -/
def Obligations.Fp8Results : Prop :=
  (∀ c y sat, (c, y, sat) ∈ [(Instr.vcvtph2bf8, Fp8.bf8, false), (Instr.vcvtph2bf8s, Fp8.bf8, true),
      (Instr.vcvtph2hf8, Fp8.hf8, false), (Instr.vcvtph2hf8s, Fp8.hf8, true)] →
    ∀ (vl : VL) (o : VecOp2) (s : State) (x : Zmm) (F : Flags), Runs (c vl o) s x →
      let r := fun j => fp16ToFp8 (lane 16 j x).toNat y sat
      Collected s o.mask (vl.bits / 16) (fun j => fp8Flags y (lane 16 j x).toNat (r j)) F →
      VectorDone (c vl o) s (effectiveFlags o.rm.loc F) 8 (vl.bits / 16) fun j => BitVec.ofNat 8 (r j).byte) ∧
  (∀ c y sat, (c, y, sat) ∈ [(Instr.vcvt2ph2bf8, Fp8.bf8, false), (Instr.vcvt2ph2bf8s, Fp8.bf8, true),
      (Instr.vcvt2ph2hf8, Fp8.hf8, false), (Instr.vcvt2ph2hf8s, Fp8.hf8, true)] →
    ∀ (vl : VL) (o : VecOp3) (s : State) (x : Zmm) (F : Flags), Runs (c vl o) s x →
      let half := vl.bits / 16
      let t := fun j => if j < half then (lane 16 j x).toNat else (lane 16 (j - half) (s.vec o.src1)).toNat
      let r := fun j => fp16ToFp8 (t j) y sat
      Collected s o.mask (vl.bits / 8) (fun j => fp8Flags y (t j) (r j)) F →
      VectorDone (c vl o) s (effectiveFlags o.rm.loc F) 8 (vl.bits / 8) fun j => BitVec.ofNat 8 (r j).byte) ∧
  (∀ c y sat, (c, y, sat) ∈ [(Instr.vcvtbiasph2bf8, Fp8.bf8, false), (Instr.vcvtbiasph2bf8s, Fp8.bf8, true),
      (Instr.vcvtbiasph2hf8, Fp8.hf8, false), (Instr.vcvtbiasph2hf8s, Fp8.hf8, true)] →
    ∀ (vl : VL) (o : VecOp3) (s : State) (x : Zmm) (F : Flags), Runs (c vl o) s x →
      let r := fun j => fp16ToFp8Bias (lane 16 j x).toNat (lane 8 (2 * j) (s.vec o.src1)).toNat y sat
      Collected s o.mask (vl.bits / 16) (fun j => fp8Flags y (lane 16 j x).toNat (r j)) F →
      VectorDone (c vl o) s (effectiveFlags o.rm.loc F) 8 (vl.bits / 16) fun j => BitVec.ofNat 8 (r j).byte)

/-- The converts from FP16 to FP8, with rounding to nearest even and with a bias, plain and saturating: every byte keeps the
sign; a NaN becomes a quiet NaN (BF8: the top byte) or 7F (HF8); an infinity and a number out of range become the infinity
7C (BF8) or the NaN 7F (HF8), or under saturation the largest magnitude 7B or 7E, which no saturated number exceeds. Other
numbers become the nearest magnitude, the even one in a tie; under a bias the sum of the source and the bias, aligned below
the last bit of the result, is truncated (R136, R138, R141 to R146). Flags: IE for a signaling NaN; DE for a denormal
source; OE and PE out of range; PE, and UE with a zero exponent field of the result, where the value changes (R281, whose
conditions are the spec's decision D18). -/
def Obligations.Fp8Saturates : Prop :=
  ∀ (x b : Nat) (y : Fp8) (sat : Bool), x < 2 ^ 16 → b < 2 ^ 8 →
    let greatest := if y = .bf8 then 0x7B else 0x7E
    let beyond := if sat then greatest else greatest + 1
    let v := |fp16.rat x|
    let ulp : ℚ := (2 : ℚ) ^ fp16.scale x
    let aligned : ℚ := v + ((b / 2 : Nat) : ℚ) * ulp
    let biased : ℚ := if y = .bf8 then v + (b : ℚ) * ulp else if aligned < 1 / 64 then v + (b : ℚ) / 2 ^ 17 else aligned
    let near := fp16ToFp8 x y sat
    let trunc := fp16ToFp8Bias x b y sat
    (∀ r ∈ [near, trunc],
      r.byte / 128 = x / 2 ^ 15 ∧
      (fp16.isNaN x = true → r.byte % 128 = if y = .bf8 then x / 2 ^ 8 % 128 ||| 2 else 0x7F) ∧
      (fp16.isInf x = true ∨ fp16.isFinite x = true ∧ r.overflow = true → r.byte % 128 = beyond) ∧
      (fp16.isNaN x = false → sat = true → r.byte % 128 ≤ greatest) ∧
      fp8Flags y x r =
        if fp16.isSNaN x then 1 else if fp16.isNaN x || fp16.isInf x then 0
        else (if fp16.isDenormal x then 2 else 0) |||
          (if r.overflow then 0x28 else if y.fmt.rat r.byte = fp16.rat x then 0
           else if y.fmt.exp r.byte = 0 then 0x30 else 0x20)) ∧
    (fp16.isFinite x = true →
      (near.overflow = true ↔ if y = .bf8 then 61440 ≤ v else 464 < v) ∧
      (near.overflow = false → NearestEven y.fmt.rat (greatest + 1) v (near.byte % 128)) ∧
      (trunc.overflow = true ↔ y.fmt.rat (greatest + 1) ≤ biased) ∧
      (trunc.overflow = false → y.fmt.rat (trunc.byte % 128) ≤ biased ∧ biased < y.fmt.rat (trunc.byte % 128 + 1)))

/-- VCVTHF82PH: each byte becomes the FP16 pattern of exactly its value, the NaN 0x7F becomes 0x7F80 with its sign; a
processed HF8 denormal records DE, and raises where DE is unmasked (R295). That DE is in MXCSR when it raises is the spec's
decision D10 (log entry 12, unsafe). -/
def Obligations.Hf8ToFp16Results : Prop :=
  (∀ x : Nat, x < 2 ^ 8 →
    (x % 128 = 127 → hf8ToFp16 x = x / 128 * 2 ^ 15 + 0x7F80) ∧
    (x % 128 ≠ 127 → fp16.isFinite (hf8ToFp16 x) = true ∧ fp16.rat (hf8ToFp16 x) = hf8.rat x ∧
      fp16.sign (hf8ToFp16 x) = hf8.sign x)) ∧
  ∀ (vl : VL) (o : VecOp2) (s : State) (x : Zmm) (F : Flags), Runs (.vcvthf82ph vl o) s x →
    Collected s o.mask (vl.bits / 16)
      (fun j => if (lane 8 j x).extractLsb' 3 4 = 0 ∧ (lane 8 j x).extractLsb' 0 3 ≠ 0 then 2 else 0) F →
    (Quiet s o.rm.loc F →
      VectorDone (.vcvthf82ph vl o) s (effectiveFlags o.rm.loc F) 16 (vl.bits / 16) fun j =>
        BitVec.ofNat 16 (hf8ToFp16 (lane 8 j x).toNat)) ∧
    (¬ Quiet s o.rm.loc F →
      exec (.vcvthf82ph vl o) s = raise (if s.cr4.getLsbD 10 then .xm else .ud) (s.orFlags F))

/-- VCVT2PS2PHX completes whatever the MXCSR masks are: the low half of the result comes from the r/m source; rounding by
MXCSR.RC or the embedded mode (R290), which records no flags (decision D12, log entry 1). An element is the value rounded to
11 significant bits or to a multiple of 2^-24, with PE where it changes, and UE too where rounding to 11 bits would leave it
below 2^-14; above 65504 it is the infinity or the largest number of the rounding direction with OE and PE (decision D17);
a NaN is quieted, with IE for a signaling one; a denormal is a zero under DAZ and records DE otherwise (R147). -/
def Obligations.Vcvt2ps2phxResult : Prop :=
  (∀ (vl : VL) (o : VecOp3) (s : State) (x : Zmm) (F : Flags), Runs (.vcvt2ps2phx vl o) s x →
    let rm :=
      match o.rm.loc with
      | .regEr _ rc => RoundMode.ofBits rc
      | .reg _ | .regSae _ | .mem _ | .bcst _ => RoundMode.ofBits (s.mxcsr.extractLsb' 13 2)
    let half := vl.bits / 32
    let t := fun j => if j < half then (lane 32 j x).toNat else (lane 32 (j - half) (s.vec o.src1)).toNat
    let r := fun j => fp32ToFp16 rm (s.mxcsr.getLsbD 6) (t j)
    Collected s o.mask (vl.bits / 16) (fun j => (r j).2) F →
    VectorDone (.vcvt2ps2phx vl o) s (if o.rm.loc.sae then 0 else F) 16 (vl.bits / 16)
      fun j => BitVec.ofNat 16 (r j).1) ∧
  ∀ (rm : RoundMode) (daz : Bool) (x : Nat), x < 2 ^ 32 →
    let sign := fp32.sign x
    let r := fp32ToFp16 rm daz x
    (fp32.isInf x = true → r = (fp16.inf sign, 0)) ∧
    (fp32.isNaN x = true → fp16.isQNaN r.1 = true ∧ r.1 / 2 ^ 15 = x / 2 ^ 31 ∧ r.1 % 2 ^ 9 = x / 2 ^ 13 % 2 ^ 9 ∧
      r.2 = if fp32.isSNaN x then 1 else 0) ∧
    (fp32.isZero x = true ∨ daz = true ∧ fp32.isDenormal x = true → r = (fp16.zero sign, 0)) ∧
    (fp32.isFinite x = true → fp32.isZero x = false → ¬ (daz = true ∧ fp32.isDenormal x = true) →
      let v := fp32.rat x
      let de : Flags := if fp32.isDenormal x then 2 else 0
      ∀ e : ℤ, (2 : ℚ) ^ e ≤ |v| → |v| < (2 : ℚ) ^ (e + 1) →
        let multipleOf : ℤ → ℚ := fun q => (rm.toIntegral (v / (2 : ℚ) ^ q) : ℚ) * (2 : ℚ) ^ q
        let y := multipleOf (max (e - 10) (-24))
        (65504 < |y| →
          r = (if rm = .rne ∨ rm = .rup ∧ sign = false ∨ rm = .rdn ∧ sign = true then fp16.inf sign
            else fp16.maxFinite sign, de ||| 0x28)) ∧
        (|y| ≤ 65504 → fp16.isFinite r.1 = true ∧ fp16.rat r.1 = y ∧ fp16.sign r.1 = sign ∧
          r.2 = de ||| (if y = v then 0 else if |multipleOf (e - 10)| < (2 : ℚ) ^ (-14 : ℤ) then 0x30 else 0x20)))

/-! ## Dot products and VMPSADBW (spec/45_vnni_media.md) -/

/-- The byte dot products complete: the exact sum of four products of bytes, each extended as its letter says, is added to
the old doubleword, which wraps, or saturates as a signed or unsigned number (R313 to R321). -/
def Obligations.ByteDotResults : Prop :=
  ∀ c op signed1 signed2 saturating pp opcode, (c, op, signed1, signed2, saturating, pp, opcode) ∈
      [(Instr.vpdpbssd, Op.vpdpbssd, true, true, false, 3#2, 0x50#8), (Instr.vpdpbssds, .vpdpbssds, true, true, true, 3, 0x51),
       (Instr.vpdpbsud, .vpdpbsud, true, false, false, 2, 0x50), (Instr.vpdpbsuds, .vpdpbsuds, true, false, true, 2, 0x51),
       (Instr.vpdpbuud, .vpdpbuud, false, false, false, 0, 0x50),
       (Instr.vpdpbuuds, .vpdpbuuds, false, false, true, 0, 0x51)] →
    op.code = (2, pp, false, opcode) ∧ op.info.cls = .e4 ∧ op.info.bcst = true ∧ op.info.elem = 4 ∧
    ∀ (vl : VL) (o : VecOp3) (s : State) (x : Zmm), Runs (c vl o) s x →
      (c vl o).op = op ∧
      VectorDone (c vl o) s 0 32 (vl.bits / 32) fun j =>
        let byte : Bool → Zmm → Nat → Int := fun signed v n =>
          if signed then (v.extractLsb' (8 * n) 8).toInt else ((v.extractLsb' (8 * n) 8).toNat : Int)
        let term : Nat → Int := fun n => byte signed1 (s.vec o.src1) (4 * j + n) * byte signed2 x (4 * j + n)
        let p := term 0 + term 1 + term 2 + term 3
        let old := lane 32 j (s.vec o.dest)
        if saturating then
          if signed1 || signed2 then BitVec.ofInt 32 (max (-2 ^ 31) (min (2 ^ 31 - 1) (old.toInt + p)))
          else BitVec.ofInt 32 (min (2 ^ 32 - 1) ((old.toNat : Int) + p))
        else old + BitVec.ofInt 32 p

/-- The word dot products complete: the exact sum of two products of words, each extended as its letter says, is added to
the old doubleword, which wraps, or saturates as a signed or unsigned number (R320 to R328). -/
def Obligations.WordDotResults : Prop :=
  ∀ c op signed1 signed2 saturating pp opcode, (c, op, signed1, signed2, saturating, pp, opcode) ∈
      [(Instr.vpdpwsud, Op.vpdpwsud, true, false, false, 2#2, 0xD2#8), (Instr.vpdpwsuds, .vpdpwsuds, true, false, true, 2, 0xD3),
       (Instr.vpdpwusd, .vpdpwusd, false, true, false, 1, 0xD2), (Instr.vpdpwusds, .vpdpwusds, false, true, true, 1, 0xD3),
       (Instr.vpdpwuud, .vpdpwuud, false, false, false, 0, 0xD2),
       (Instr.vpdpwuuds, .vpdpwuuds, false, false, true, 0, 0xD3)] →
    op.code = (2, pp, false, opcode) ∧ op.info.cls = .e4 ∧ op.info.bcst = true ∧ op.info.elem = 4 ∧
    ∀ (vl : VL) (o : VecOp3) (s : State) (x : Zmm), Runs (c vl o) s x →
      (c vl o).op = op ∧
      VectorDone (c vl o) s 0 32 (vl.bits / 32) fun j =>
        let word : Bool → Zmm → Nat → Int := fun signed v n =>
          if signed then (v.extractLsb' (16 * n) 16).toInt else ((v.extractLsb' (16 * n) 16).toNat : Int)
        let term : Nat → Int := fun n => word signed1 (s.vec o.src1) (2 * j + n) * word signed2 x (2 * j + n)
        let p := term 0 + term 1
        let old := lane 32 j (s.vec o.dest)
        if saturating then
          if signed1 || signed2 then BitVec.ofInt 32 (max (-2 ^ 31) (min (2 ^ 31 - 1) (old.toInt + p)))
          else BitVec.ofInt 32 (min (2 ^ 32 - 1) ((old.toNat : Int) + p))
        else old + BitVec.ofInt 32 p

/-- VDPHPHS completes: FP16 sources are converted exactly (spec/40_numerics_helpers.md R148); NaNs in the order even pair,
odd pair, accumulator, quieted; else two fused accumulations, the odd pair first (R311; the NaN order is a decision of the
spec). -/
def Obligations.VdphphsResult : Prop :=
  (∀ x : Nat, x < 2 ^ 16 →
    (fp16.isFinite x = true → fp32.isFinite (fp16ToFp32 x) = true ∧ fp32.rat (fp16ToFp32 x) = fp16.rat x ∧
      fp32.sign (fp16ToFp32 x) = fp16.sign x) ∧
    (fp16.isInf x = true → fp16ToFp32 x = fp32.inf (fp16.sign x)) ∧
    (fp16.isNaN x = true → fp32.isQNaN (fp16ToFp32 x) = true ∧ fp32.sign (fp16ToFp32 x) = fp16.sign x)) ∧
  ∀ (vl : VL) (o : VecOp3) (s : State) (x : Zmm), Runs (.vdphphs vl o) s x →
    VectorDone (.vdphphs vl o) s 0 32 (vl.bits / 32) fun j =>
      let half : Zmm → Nat → Nat := fun v n => fp16ToFp32 (lane 16 n v).toNat
      let e1 := half (s.vec o.src1) (2 * j)
      let e2 := half x (2 * j)
      let o1 := half (s.vec o.src1) (2 * j + 1)
      let o2 := half x (2 * j + 1)
      let acc := (lane 32 j (s.vec o.dest)).toNat
      let first := fp32.fmaCore false false o1 o2 acc
      BitVec.ofNat 32
        (if fp32.isNaN e1 then fp32.quiet e1 else if fp32.isNaN e2 then fp32.quiet e2
         else if fp32.isNaN o1 then fp32.quiet o1 else if fp32.isNaN o2 then fp32.quiet o2
         else if fp32.isNaN acc then fp32.quiet acc
         else if fp32.isNaN first then first else fp32.fmaCore false false e1 e2 first)

/-- VMPSADBW completes: word `8*lane + i` is the sum of the absolute differences of four bytes from offset `4*control[2] + i`
of the lane of the first source and four bytes from offset `4*control[1:0]` of the lane of the second, `control` being
imm8[2:0] in even lanes and imm8[5:3] in odd ones (R312). -/
def Obligations.VmpsadbwResult : Prop :=
  Op.vmpsadbw.code = (3, 2, false, 0x42) ∧ Op.vmpsadbw.info.bcst = false ∧ Op.vmpsadbw.info.cls = .e4nf ∧
  ∀ (vl : VL) (o : VecOp3) (imm : BitVec 8) (s : State) (x : Zmm), Runs (.vmpsadbw vl o imm) s x →
    VectorDone (.vmpsadbw vl o imm) s 0 16 (vl.bits / 16) fun k =>
      let group := k / 8
      let i := k % 8
      let control : BitVec 3 := if group % 2 = 0 then imm.extractLsb' 0 3 else imm.extractLsb' 3 3
      let blk1 := (if control.getLsbD 2 then 4 else 0)
      let blk2 := (control.extractLsb' 0 2).toNat * 4
      let byte : Zmm → Nat → Int := fun v n => ((v.extractLsb' (128 * group + 8 * n) 8).toNat : Int)
      let term : Nat → Nat := fun n => (byte (s.vec o.src1) (blk1 + i + n) - byte x (blk2 + n)).natAbs
      BitVec.ofNat 16 (term 0 + term 1 + term 2 + term 3)

/-! ## MINMAX (spec/46_minmax.md) -/

/-- The four packed forms and the three scalar forms: element results and flags are `minmax` with the `daz` and `except` of
R342; a scalar form takes bits 127:w from the first source and clears the rest, its vector length being 128 by the spec's
decision D22 (R347). With SAE, which records nothing (decision D12), or the flags masked they complete; otherwise they raise
#XM, or #UD with CR4.OSXMMEXCPT = 0, the flags being in MXCSR then by decision D10 (log entry 12, unsafe). -/
def Obligations.MinmaxResults : Prop :=
  (∀ c f w dazed except, (c, f, w, dazed, except) ∈
      [(Instr.vminmaxbf16, bf16, 16, fun _ : State => true, false), (Instr.vminmaxph, fp16, 16, fun _ => false, true),
       (Instr.vminmaxps, fp32, 32, fun s => s.mxcsr.getLsbD 6, true),
       (Instr.vminmaxpd, fp64, 64, fun s => s.mxcsr.getLsbD 6, true)] →
    ∀ (vl : VL) (o : VecOp3) (imm : BitVec 8) (s : State) (x : Zmm) (F : Flags), Runs (c vl o imm) s x →
      let r := fun j => minmax f imm (dazed s) except (lane w j (s.vec o.src1)).toNat (lane w j x).toNat
      Collected s o.mask (vl.bits / w) (fun j => (r j).2) F →
      (Quiet s o.rm.loc F →
        VectorDone (c vl o imm) s (effectiveFlags o.rm.loc F) w (vl.bits / w) fun j => BitVec.ofNat w (r j).1) ∧
      (¬ Quiet s o.rm.loc F → exec (c vl o imm) s = raise (if s.cr4.getLsbD 10 then .xm else .ud) (s.orFlags F))) ∧
  (∀ c f w dazed, (c, f, w, dazed) ∈
      [(Instr.vminmaxsh, fp16, 16, fun _ : State => false), (Instr.vminmaxss, fp32, 32, fun s => s.mxcsr.getLsbD 6),
       (Instr.vminmaxsd, fp64, 64, fun s => s.mxcsr.getLsbD 6)] →
    ∀ (o : VecOp3) (imm : BitVec 8) (s : State) (x : Zmm), Runs (c o imm) s x →
      let r := minmax f imm (dazed s) true (lane w 0 (s.vec o.src1)).toNat (lane w 0 x).toNat
      let F : Flags := if s.active o.mask 0 then r.2 else 0
      (Quiet s o.rm.loc F →
        ∃ v, exec (c o imm) s =
            .next (((s.orFlags (effectiveFlags o.rm.loc F)).setVec o.dest v).advance (c o imm).length) ∧
          lane w 0 v = (if s.active o.mask 0 then BitVec.ofNat w r.1 else if o.zero then 0
            else lane w 0 (s.vec o.dest)) ∧
          (∀ b, w ≤ b → b < 128 → v.getLsbD b = (s.vec o.src1).getLsbD b) ∧
          ∀ b, 128 ≤ b → v.getLsbD b = false) ∧
      (¬ Quiet s o.rm.loc F → exec (c o imm) s = raise (if s.cr4.getLsbD 10 then .xm else .ud) (s.orFlags F)))

/-- NaN operands of MINMAX, the rows of Tables 11.3 and 11.4: with two NaNs, or with one and imm8[4] = 0, the signaling NaN
of the first source, then of the second, then the quiet NaN of the first, then of the second, quieted, whatever imm8[3:2];
with imm8[4] = 1 the number, its sign set by imm8[3:2] = 10 and 11 only; IE exactly with a signaling NaN and `except`, never
DE (R343). -/
def Obligations.MinmaxNaN : Prop :=
  ∀ f ∈ [bf16, fp16, fp32, fp64], ∀ (imm : BitVec 8) (daz except : Bool) (x y : Nat),
    x < 2 ^ (1 + f.ebits + f.fbits) → y < 2 ^ (1 + f.ebits + f.fbits) →
    let a := if daz then f.daz x else x
    let b := if daz then f.daz y else y
    let r := minmax f imm daz except x y
    let signed : Nat → Nat := fun n =>
      if imm.getLsbD 3 then f.pack (imm.getLsbD 2) (f.exp n) (f.frac n) else n
    (f.isNaN a = true ∨ f.isNaN b = true → r.2 = if except && (f.isSNaN a || f.isSNaN b) then 1 else 0) ∧
    (f.isNaN a = true ∧ f.isNaN b = true ∨ imm.getLsbD 4 = false →
      (f.isSNaN a = true → r.1 = f.quiet a) ∧
      (f.isSNaN a = false → f.isSNaN b = true → r.1 = f.quiet b) ∧
      (f.isSNaN b = false → f.isQNaN a = true → r.1 = a) ∧
      (f.isNaN a = false → f.isQNaN b = true → r.1 = b)) ∧
    (imm.getLsbD 4 = true → f.isNaN a = true → f.isNaN b = false → r.1 = signed b) ∧
    (imm.getLsbD 4 = true → f.isNaN a = false → f.isNaN b = true → r.1 = signed a)

/-- MINMAX of two numbers: the comparison result `r` is, of the operands after `daz`, the least or greatest by value, or by
magnitude and then by value, -0 being less than +0 (R341, Tables 11.1, 11.5 and 11.6); the result is `r` with the sign of
the first operand (sign control 00), its own (01), + (10) or - (11) (Table 11.2); DE is signalled exactly where the
instruction signals and an operand is still denormal, and no other flag (R342). -/
def Obligations.MinmaxNumbers : Prop :=
  ∀ f ∈ [bf16, fp16, fp32, fp64], ∀ (imm : BitVec 8) (daz except : Bool) (x y : Nat),
    x < 2 ^ (1 + f.ebits + f.fbits) → y < 2 ^ (1 + f.ebits + f.fbits) → f.isNaN x = false → f.isNaN y = false →
    let a := if daz then f.daz x else x
    let b := if daz then f.daz y else y
    let magnitude : Nat → Nat := fun n => f.pack false (f.exp n) (f.frac n)
    let below : Nat → Nat → Prop := fun m n =>
      f.valueLt m n ∨ (f.isZero m = true ∧ f.isZero n = true ∧ f.sign m = true ∧ f.sign n = false)
    let nearer : Nat → Nat → Prop := fun m n => f.valueLt (magnitude m) (magnitude n)
    let least : (Nat → Nat → Prop) → Nat → Prop := fun lt r => (r = a ∨ r = b) ∧ ¬ lt a r ∧ ¬ lt b r
    (minmax f imm daz except x y).2 = (if except && (f.isDenormal a || f.isDenormal b) then 2 else 0) ∧
    ∃ r,
      (imm.extractLsb' 0 2 = 0#2 → least below r) ∧
      (imm.extractLsb' 0 2 = 1#2 → least (fun m n => below n m) r) ∧
      (imm.extractLsb' 0 2 = 2#2 → least (fun m n => nearer m n ∨ (¬ nearer n m ∧ below m n)) r) ∧
      (imm.extractLsb' 0 2 = 3#2 → least (fun m n => nearer n m ∨ (¬ nearer m n ∧ below n m)) r) ∧
      (minmax f imm daz except x y).1 =
        if imm.extractLsb' 2 2 = 1#2 then r
        else f.pack (if imm.extractLsb' 2 2 = 0#2 then f.sign x else imm.getLsbD 2) (f.exp r) (f.frac r)

/-! ## Saturating converts (spec/47_saturating_convert.md) -/

/-- The four BF16 forms complete with the saturated byte, zero extended, and no flags (R361 to R367). -/
def Obligations.SaturatingBf16Results : Prop :=
  ∀ c signed rm, (c, signed, rm) ∈ [(Instr.vcvtbf162ibs, true, RoundMode.rne), (Instr.vcvtbf162iubs, false, .rne),
      (Instr.vcvttbf162ibs, true, .rtz), (Instr.vcvttbf162iubs, false, .rtz)] →
    ∀ (vl : VL) (o : VecOp2) (s : State) (x : Zmm), Runs (c vl o) s x →
      VectorDone (c vl o) s 0 16 (vl.bits / 16) fun j =>
        (BitVec.ofInt 8 (satCvt bf16 (bf16.daz (lane 16 j x).toNat) signed 8 rm).1).setWidth 16

/-- The other sixteen packed forms: source format and width, destination width and result width, signedness, rounding by
MXCSR.RC or embedded, or truncation; MXCSR.DAZ for FP32 and FP64 sources. With SAE or the flags masked they complete;
otherwise they raise #XM, or #UD with CR4.OSXMMEXCPT = 0 (R361 to R383). Decisions of the spec: the use of MXCSR.DAZ (D36),
no flags under SAE (D12), the flags being in MXCSR when an instruction raises (D10; log entry 12, unsafe). -/
def Obligations.SaturatingPackedResults : Prop :=
  ∀ c f ws wd w signed truncates dazed, (c, f, ws, wd, w, signed, truncates, dazed) ∈
      [(Instr.vcvtph2ibs, fp16, 16, 16, 8, true, false, false),
       (Instr.vcvtph2iubs, fp16, 16, 16, 8, false, false, false),
       (Instr.vcvttph2ibs, fp16, 16, 16, 8, true, true, false),
       (Instr.vcvttph2iubs, fp16, 16, 16, 8, false, true, false),
       (Instr.vcvtps2ibs, fp32, 32, 32, 8, true, false, true),
       (Instr.vcvtps2iubs, fp32, 32, 32, 8, false, false, true),
       (Instr.vcvttps2ibs, fp32, 32, 32, 8, true, true, true),
       (Instr.vcvttps2iubs, fp32, 32, 32, 8, false, true, true),
       (Instr.vcvttpd2dqs, fp64, 64, 32, 32, true, true, true),
       (Instr.vcvttpd2qqs, fp64, 64, 64, 64, true, true, true),
       (Instr.vcvttpd2udqs, fp64, 64, 32, 32, false, true, true),
       (Instr.vcvttpd2uqqs, fp64, 64, 64, 64, false, true, true),
       (Instr.vcvttps2dqs, fp32, 32, 32, 32, true, true, true),
       (Instr.vcvttps2qqs, fp32, 32, 64, 64, true, true, true),
       (Instr.vcvttps2udqs, fp32, 32, 32, 32, false, true, true),
       (Instr.vcvttps2uqqs, fp32, 32, 64, 64, false, true, true)] →
    ∀ (vl : VL) (o : VecOp2) (s : State) (x : Zmm) (F : Flags), Runs (c vl o) s x →
      let rm : RoundMode := if truncates then .rtz else
        match o.rm.loc with
        | .regEr _ rc => RoundMode.ofBits rc
        | .reg _ | .regSae _ | .mem _ | .bcst _ => RoundMode.ofBits (s.mxcsr.extractLsb' 13 2)
      let n := vl.bits / max ws wd
      let t := fun j => if dazed && s.mxcsr.getLsbD 6 then f.daz (lane ws j x).toNat else (lane ws j x).toNat
      let r := fun j => satCvt f (t j) signed w rm
      Collected s o.mask n (fun j => (r j).2) F →
      (Quiet s o.rm.loc F →
        VectorDone (c vl o) s (effectiveFlags o.rm.loc F) wd n fun j => (BitVec.ofInt w (r j).1).setWidth wd) ∧
      (¬ Quiet s o.rm.loc F → exec (c vl o) s = raise (if s.cr4.getLsbD 10 then .xm else .ud) (s.orFlags F))

/-- The eight scalar forms: element 0 truncated and saturated to 32 bits, or to 64 bits with W = 1 in 64-bit mode, zero
extended into the whole general register. With SAE or the flags masked they complete; otherwise they raise #XM, or #UD with
CR4.OSXMMEXCPT = 0 (R384 to R388). Decisions of the spec: the zero extension (D16), the use of MXCSR.DAZ (D36), no flags
under SAE (D12), the flags being in MXCSR when an instruction raises (D10; log entry 12, unsafe). -/
def Obligations.SaturatingScalarResults : Prop :=
  ∀ c f ws signed wide, (c, f, ws, signed, wide) ∈
      [(Instr.vcvttsd2sisR32, fp64, 64, true, false), (Instr.vcvttsd2sisR64, fp64, 64, true, true),
       (Instr.vcvttsd2usisR32, fp64, 64, false, false), (Instr.vcvttsd2usisR64, fp64, 64, false, true),
       (Instr.vcvttss2sisR32, fp32, 32, true, false), (Instr.vcvttss2sisR64, fp32, 32, true, true),
       (Instr.vcvttss2usisR32, fp32, 32, false, false), (Instr.vcvttss2usisR64, fp32, 32, false, true)] →
    ∀ (o : GprRm) (s : State) (x : Zmm), Runs (c o) s x →
      let w := if wide = true ∧ s.mode = .mode64 then 64 else 32
      let t := if s.mxcsr.getLsbD 6 then f.daz (lane ws 0 x).toNat else (lane ws 0 x).toNat
      let r := satCvt f t signed w .rtz
      (Quiet s o.rm.loc r.2 →
        exec (c o) s = .next (((s.orFlags (effectiveFlags o.rm.loc r.2)).setGeneral o.dest
          ((BitVec.ofInt w r.1).setWidth 64)).advance (c o).length)) ∧
      (¬ Quiet s o.rm.loc r.2 → exec (c o) s = raise (if s.cr4.getLsbD 10 then .xm else .ud) (s.orFlags r.2))

/-- The generic saturating convert: 0 with IE for a NaN; the bound with IE for an infinity and for a rounded value out of
range; else the rounded value, with PE exactly where it differs from the source (spec/40_numerics_helpers.md R160, a
decision of the spec). -/
def Obligations.SatConvertExact : Prop :=
  ∀ f ∈ [bf16, fp16, fp32, fp64], ∀ (x : Nat) (signed : Bool) (w : Nat) (rm : RoundMode),
    x < 2 ^ (1 + f.ebits + f.fbits) → w ∈ [8, 32, 64] →
    let lo : Int := if signed then -2 ^ (w - 1) else 0
    let hi : Int := if signed then 2 ^ (w - 1) - 1 else 2 ^ w - 1
    (f.isNaN x = true → satCvt f x signed w rm = (0, 1)) ∧
    (f.isInf x = true → satCvt f x signed w rm = (if f.sign x then lo else hi, 1)) ∧
    (f.isFinite x = true →
      let r := rm.toIntegral (f.rat x)
      satCvt f x signed w rm =
        if hi < r then (hi, 1) else if r < lo then (lo, 1) else (r, if (r : ℚ) = f.rat x then 0 else 0x20))

/-! ## Partial copies (spec/48_partial_copy.md) -/

/-- The load forms of VMOVD and VMOVW complete: the low 32 or 16 bits of the source, zero extended to the whole register;
MXCSR and all else stay (R411, R413). -/
def Obligations.LoadResults : Prop :=
  Op.vmovdLoad.code = (1, 2, false, 0x7E) ∧ Op.vmovwLoad.code = (5, 2, false, 0x6E) ∧
  (∀ (o : RegRm) (s : State) (x : Zmm), Runs (.vmovdLoad o) s x →
    exec (.vmovdLoad o) s = .next ((s.setVec o.reg ((x.extractLsb' 0 32).setWidth 512)).advance (Instr.vmovdLoad o).length)) ∧
  (∀ (o : RegRm) (s : State) (x : Zmm), Runs (.vmovwLoad o) s x →
    exec (.vmovwLoad o) s = .next ((s.setVec o.reg ((x.extractLsb' 0 16).setWidth 512)).advance (Instr.vmovwLoad o).length))

/-- The store forms of VMOVD and VMOVW complete: with a register operand its low 32 or 16 bits are written and the rest
cleared; with memory exactly 4 or 2 bytes are written, least significant first, and nothing else changes (R412, R414). That
each byte lies where the translation puts it, and that all must be mapped, is R70 with log entry 7 (DESIGN CHOICE); that
they must be aligned where alignment checking applies is R69 with log entry 13. -/
def Obligations.StoreResults : Prop :=
  Op.vmovdStore.code = (1, 1, false, 0xD6) ∧ Op.vmovwStore.code = (5, 2, false, 0x7E) ∧
  ∀ c n, (c, n) ∈ [(Instr.vmovdStore, 4), (Instr.vmovwStore, 2)] →
    ∀ (o : RegRm) (s : State), Ready s (c o).op → Fits s (c o) →
      (∀ r, o.rm.loc.register = some r →
        exec (c o) s =
          .next ((s.setVec r (((s.vec o.reg).extractLsb' 0 (8 * n)).setWidth 512)).advance (c o).length)) ∧
      (∀ m, memoryAccess (c o) s = some m → memWf s.mem = true →
        (∀ k, k < n → (m.kindAt s k).isMapped = true) →
        (s.cr0.getLsbD 18 = true ∧ s.eflags.getLsbD 18 = true ∧ s.cpl = 3 → m.ea.toNat % n = 0) →
        ∃ mem, exec (c o) s = .next ({ s with mem := mem }.advance (c o).length) ∧
          (∀ a : Address, (∀ k, k < n → a ≠ s.physical m k) →
            memRead mem a.toNat = s.byteAt a) ∧
          ((∀ j k, j < n → k < n → j ≠ k → s.physical m j ≠
              s.physical m k) →
            ∀ k, k < n → memRead mem (s.physical m k).toNat =
              (s.vec o.reg).extractLsb' (8 * k) 8))
end

