-- ==== Sys2Proof/Laws/State.lean ====
section
/-! SUPPORT. What each update of the state does to each field, and registers after a register write. -/

namespace Sys2Proof.Machine

variable (s : State)

/-! ## setByte -/

@[simp] theorem State.setByte_zmm (a : Address) (b : Byte) : (s.setByte a b).zmm = s.zmm := rfl
@[simp] theorem State.setByte_k (a : Address) (b : Byte) : (s.setByte a b).k = s.k := rfl
@[simp] theorem State.setByte_gpr (a : Address) (b : Byte) : (s.setByte a b).gpr = s.gpr := rfl
@[simp] theorem State.setByte_pc (a : Address) (b : Byte) : (s.setByte a b).pc = s.pc := rfl
@[simp] theorem State.setByte_mxcsr (a : Address) (b : Byte) : (s.setByte a b).mxcsr = s.mxcsr := rfl
@[simp] theorem State.setByte_eflags (a : Address) (b : Byte) : (s.setByte a b).eflags = s.eflags := rfl
@[simp] theorem State.setByte_cr0 (a : Address) (b : Byte) : (s.setByte a b).cr0 = s.cr0 := rfl
@[simp] theorem State.setByte_cr4 (a : Address) (b : Byte) : (s.setByte a b).cr4 = s.cr4 := rfl
@[simp] theorem State.setByte_xcr0 (a : Address) (b : Byte) : (s.setByte a b).xcr0 = s.xcr0 := rfl
@[simp] theorem State.setByte_cpuid (a : Address) (b : Byte) : (s.setByte a b).cpuid = s.cpuid := rfl
@[simp] theorem State.setByte_mode (a : Address) (b : Byte) : (s.setByte a b).mode = s.mode := rfl
@[simp] theorem State.setByte_cpl (a : Address) (b : Byte) : (s.setByte a b).cpl = s.cpl := rfl
@[simp] theorem State.setByte_segBase (a : Address) (b : Byte) : (s.setByte a b).segBase = s.segBase := rfl
@[simp] theorem State.setByte_translation (a : Address) (b : Byte) : (s.setByte a b).translation = s.translation := rfl
@[simp] theorem State.setByte_mem (a : Address) (b : Byte) : (s.setByte a b).mem = memWrite s.mem a.toNat b := rfl

/-! ## setVec -/

@[simp] theorem State.setVec_zmm (r : VReg) (v : Zmm) : (s.setVec r v).zmm = s.zmm.set r.toNat v r.isLt := rfl
@[simp] theorem State.setVec_k (r : VReg) (v : Zmm) : (s.setVec r v).k = s.k := rfl
@[simp] theorem State.setVec_gpr (r : VReg) (v : Zmm) : (s.setVec r v).gpr = s.gpr := rfl
@[simp] theorem State.setVec_pc (r : VReg) (v : Zmm) : (s.setVec r v).pc = s.pc := rfl
@[simp] theorem State.setVec_mxcsr (r : VReg) (v : Zmm) : (s.setVec r v).mxcsr = s.mxcsr := rfl
@[simp] theorem State.setVec_eflags (r : VReg) (v : Zmm) : (s.setVec r v).eflags = s.eflags := rfl
@[simp] theorem State.setVec_cr0 (r : VReg) (v : Zmm) : (s.setVec r v).cr0 = s.cr0 := rfl
@[simp] theorem State.setVec_cr4 (r : VReg) (v : Zmm) : (s.setVec r v).cr4 = s.cr4 := rfl
@[simp] theorem State.setVec_xcr0 (r : VReg) (v : Zmm) : (s.setVec r v).xcr0 = s.xcr0 := rfl
@[simp] theorem State.setVec_cpuid (r : VReg) (v : Zmm) : (s.setVec r v).cpuid = s.cpuid := rfl
@[simp] theorem State.setVec_mode (r : VReg) (v : Zmm) : (s.setVec r v).mode = s.mode := rfl
@[simp] theorem State.setVec_cpl (r : VReg) (v : Zmm) : (s.setVec r v).cpl = s.cpl := rfl
@[simp] theorem State.setVec_segBase (r : VReg) (v : Zmm) : (s.setVec r v).segBase = s.segBase := rfl
@[simp] theorem State.setVec_translation (r : VReg) (v : Zmm) : (s.setVec r v).translation = s.translation := rfl
@[simp] theorem State.setVec_mem (r : VReg) (v : Zmm) : (s.setVec r v).mem = s.mem := rfl

/-! ## setOpmask -/

@[simp] theorem State.setOpmask_zmm (r : KReg) (v : BitVec 64) : (s.setOpmask r v).zmm = s.zmm := rfl
@[simp] theorem State.setOpmask_k (r : KReg) (v : BitVec 64) : (s.setOpmask r v).k = s.k.set r.toNat v r.isLt := rfl
@[simp] theorem State.setOpmask_gpr (r : KReg) (v : BitVec 64) : (s.setOpmask r v).gpr = s.gpr := rfl
@[simp] theorem State.setOpmask_pc (r : KReg) (v : BitVec 64) : (s.setOpmask r v).pc = s.pc := rfl
@[simp] theorem State.setOpmask_mxcsr (r : KReg) (v : BitVec 64) : (s.setOpmask r v).mxcsr = s.mxcsr := rfl
@[simp] theorem State.setOpmask_eflags (r : KReg) (v : BitVec 64) : (s.setOpmask r v).eflags = s.eflags := rfl
@[simp] theorem State.setOpmask_cr0 (r : KReg) (v : BitVec 64) : (s.setOpmask r v).cr0 = s.cr0 := rfl
@[simp] theorem State.setOpmask_cr4 (r : KReg) (v : BitVec 64) : (s.setOpmask r v).cr4 = s.cr4 := rfl
@[simp] theorem State.setOpmask_xcr0 (r : KReg) (v : BitVec 64) : (s.setOpmask r v).xcr0 = s.xcr0 := rfl
@[simp] theorem State.setOpmask_cpuid (r : KReg) (v : BitVec 64) : (s.setOpmask r v).cpuid = s.cpuid := rfl
@[simp] theorem State.setOpmask_mode (r : KReg) (v : BitVec 64) : (s.setOpmask r v).mode = s.mode := rfl
@[simp] theorem State.setOpmask_cpl (r : KReg) (v : BitVec 64) : (s.setOpmask r v).cpl = s.cpl := rfl
@[simp] theorem State.setOpmask_segBase (r : KReg) (v : BitVec 64) : (s.setOpmask r v).segBase = s.segBase := rfl
@[simp] theorem State.setOpmask_translation (r : KReg) (v : BitVec 64) : (s.setOpmask r v).translation = s.translation := rfl
@[simp] theorem State.setOpmask_mem (r : KReg) (v : BitVec 64) : (s.setOpmask r v).mem = s.mem := rfl

/-! ## setGeneral -/

@[simp] theorem State.setGeneral_zmm (r : GReg) (v : BitVec 64) : (s.setGeneral r v).zmm = s.zmm := rfl
@[simp] theorem State.setGeneral_k (r : GReg) (v : BitVec 64) : (s.setGeneral r v).k = s.k := rfl
@[simp] theorem State.setGeneral_gpr (r : GReg) (v : BitVec 64) : (s.setGeneral r v).gpr = s.gpr.set r.toNat v r.isLt := rfl
@[simp] theorem State.setGeneral_pc (r : GReg) (v : BitVec 64) : (s.setGeneral r v).pc = s.pc := rfl
@[simp] theorem State.setGeneral_mxcsr (r : GReg) (v : BitVec 64) : (s.setGeneral r v).mxcsr = s.mxcsr := rfl
@[simp] theorem State.setGeneral_eflags (r : GReg) (v : BitVec 64) : (s.setGeneral r v).eflags = s.eflags := rfl
@[simp] theorem State.setGeneral_cr0 (r : GReg) (v : BitVec 64) : (s.setGeneral r v).cr0 = s.cr0 := rfl
@[simp] theorem State.setGeneral_cr4 (r : GReg) (v : BitVec 64) : (s.setGeneral r v).cr4 = s.cr4 := rfl
@[simp] theorem State.setGeneral_xcr0 (r : GReg) (v : BitVec 64) : (s.setGeneral r v).xcr0 = s.xcr0 := rfl
@[simp] theorem State.setGeneral_cpuid (r : GReg) (v : BitVec 64) : (s.setGeneral r v).cpuid = s.cpuid := rfl
@[simp] theorem State.setGeneral_mode (r : GReg) (v : BitVec 64) : (s.setGeneral r v).mode = s.mode := rfl
@[simp] theorem State.setGeneral_cpl (r : GReg) (v : BitVec 64) : (s.setGeneral r v).cpl = s.cpl := rfl
@[simp] theorem State.setGeneral_segBase (r : GReg) (v : BitVec 64) : (s.setGeneral r v).segBase = s.segBase := rfl
@[simp] theorem State.setGeneral_translation (r : GReg) (v : BitVec 64) : (s.setGeneral r v).translation = s.translation := rfl
@[simp] theorem State.setGeneral_mem (r : GReg) (v : BitVec 64) : (s.setGeneral r v).mem = s.mem := rfl

/-! ## advance -/

@[simp] theorem State.advance_zmm (n : Nat) : (s.advance n).zmm = s.zmm := rfl
@[simp] theorem State.advance_k (n : Nat) : (s.advance n).k = s.k := rfl
@[simp] theorem State.advance_gpr (n : Nat) : (s.advance n).gpr = s.gpr := rfl
@[simp] theorem State.advance_pc (n : Nat) : (s.advance n).pc = s.pc + BitVec.ofNat 64 n := rfl
@[simp] theorem State.advance_mxcsr (n : Nat) : (s.advance n).mxcsr = s.mxcsr := rfl
@[simp] theorem State.advance_eflags (n : Nat) : (s.advance n).eflags = s.eflags := rfl
@[simp] theorem State.advance_cr0 (n : Nat) : (s.advance n).cr0 = s.cr0 := rfl
@[simp] theorem State.advance_cr4 (n : Nat) : (s.advance n).cr4 = s.cr4 := rfl
@[simp] theorem State.advance_xcr0 (n : Nat) : (s.advance n).xcr0 = s.xcr0 := rfl
@[simp] theorem State.advance_cpuid (n : Nat) : (s.advance n).cpuid = s.cpuid := rfl
@[simp] theorem State.advance_mode (n : Nat) : (s.advance n).mode = s.mode := rfl
@[simp] theorem State.advance_cpl (n : Nat) : (s.advance n).cpl = s.cpl := rfl
@[simp] theorem State.advance_segBase (n : Nat) : (s.advance n).segBase = s.segBase := rfl
@[simp] theorem State.advance_translation (n : Nat) : (s.advance n).translation = s.translation := rfl
@[simp] theorem State.advance_mem (n : Nat) : (s.advance n).mem = s.mem := rfl

/-! ## orFlags -/

@[simp] theorem State.orFlags_zmm (f : Flags) : (s.orFlags f).zmm = s.zmm := rfl
@[simp] theorem State.orFlags_k (f : Flags) : (s.orFlags f).k = s.k := rfl
@[simp] theorem State.orFlags_gpr (f : Flags) : (s.orFlags f).gpr = s.gpr := rfl
@[simp] theorem State.orFlags_pc (f : Flags) : (s.orFlags f).pc = s.pc := rfl
@[simp] theorem State.orFlags_mxcsr (f : Flags) : (s.orFlags f).mxcsr = s.mxcsr ||| f.setWidth 32 := rfl
@[simp] theorem State.orFlags_eflags (f : Flags) : (s.orFlags f).eflags = s.eflags := rfl
@[simp] theorem State.orFlags_cr0 (f : Flags) : (s.orFlags f).cr0 = s.cr0 := rfl
@[simp] theorem State.orFlags_cr4 (f : Flags) : (s.orFlags f).cr4 = s.cr4 := rfl
@[simp] theorem State.orFlags_xcr0 (f : Flags) : (s.orFlags f).xcr0 = s.xcr0 := rfl
@[simp] theorem State.orFlags_cpuid (f : Flags) : (s.orFlags f).cpuid = s.cpuid := rfl
@[simp] theorem State.orFlags_mode (f : Flags) : (s.orFlags f).mode = s.mode := rfl
@[simp] theorem State.orFlags_cpl (f : Flags) : (s.orFlags f).cpl = s.cpl := rfl
@[simp] theorem State.orFlags_segBase (f : Flags) : (s.orFlags f).segBase = s.segBase := rfl
@[simp] theorem State.orFlags_translation (f : Flags) : (s.orFlags f).translation = s.translation := rfl
@[simp] theorem State.orFlags_mem (f : Flags) : (s.orFlags f).mem = s.mem := rfl

/-! ## setStatus -/

@[simp] theorem State.setStatus_zmm (b : BitVec 32) : (s.setStatus b).zmm = s.zmm := rfl
@[simp] theorem State.setStatus_k (b : BitVec 32) : (s.setStatus b).k = s.k := rfl
@[simp] theorem State.setStatus_gpr (b : BitVec 32) : (s.setStatus b).gpr = s.gpr := rfl
@[simp] theorem State.setStatus_pc (b : BitVec 32) : (s.setStatus b).pc = s.pc := rfl
@[simp] theorem State.setStatus_mxcsr (b : BitVec 32) : (s.setStatus b).mxcsr = s.mxcsr := rfl
@[simp] theorem State.setStatus_eflags (b : BitVec 32) : (s.setStatus b).eflags = (s.eflags &&& ~~~statusMask) ||| b := rfl
@[simp] theorem State.setStatus_cr0 (b : BitVec 32) : (s.setStatus b).cr0 = s.cr0 := rfl
@[simp] theorem State.setStatus_cr4 (b : BitVec 32) : (s.setStatus b).cr4 = s.cr4 := rfl
@[simp] theorem State.setStatus_xcr0 (b : BitVec 32) : (s.setStatus b).xcr0 = s.xcr0 := rfl
@[simp] theorem State.setStatus_cpuid (b : BitVec 32) : (s.setStatus b).cpuid = s.cpuid := rfl
@[simp] theorem State.setStatus_mode (b : BitVec 32) : (s.setStatus b).mode = s.mode := rfl
@[simp] theorem State.setStatus_cpl (b : BitVec 32) : (s.setStatus b).cpl = s.cpl := rfl
@[simp] theorem State.setStatus_segBase (b : BitVec 32) : (s.setStatus b).segBase = s.segBase := rfl
@[simp] theorem State.setStatus_translation (b : BitVec 32) : (s.setStatus b).translation = s.translation := rfl
@[simp] theorem State.setStatus_mem (b : BitVec 32) : (s.setStatus b).mem = s.mem := rfl

/-! ## enabled -/

@[simp] theorem State.enabled_zmm : s.enabled.zmm = s.zmm := rfl
@[simp] theorem State.enabled_k : s.enabled.k = s.k := rfl
@[simp] theorem State.enabled_gpr : s.enabled.gpr = s.gpr := rfl
@[simp] theorem State.enabled_pc : s.enabled.pc = s.pc := rfl
@[simp] theorem State.enabled_mxcsr : s.enabled.mxcsr = s.mxcsr := rfl
@[simp] theorem State.enabled_eflags : s.enabled.eflags = s.eflags := rfl
@[simp] theorem State.enabled_cr0 : s.enabled.cr0 = s.cr0 &&& ~~~0x8 := rfl
@[simp] theorem State.enabled_cr4 : s.enabled.cr4 = s.cr4 ||| 0x40400 := rfl
@[simp] theorem State.enabled_xcr0 : s.enabled.xcr0 = s.xcr0 ||| 0xE6 := rfl
@[simp] theorem State.enabled_cpuid : s.enabled.cpuid = s.cpuid := rfl
@[simp] theorem State.enabled_mode : s.enabled.mode = s.mode := rfl
@[simp] theorem State.enabled_cpl : s.enabled.cpl = s.cpl := rfl
@[simp] theorem State.enabled_segBase : s.enabled.segBase = s.segBase := rfl
@[simp] theorem State.enabled_translation : s.enabled.translation = s.translation := rfl
@[simp] theorem State.enabled_mem : s.enabled.mem = s.mem := rfl

/-! ## allMasked -/

@[simp] theorem State.allMasked_zmm : s.allMasked.zmm = s.zmm := rfl
@[simp] theorem State.allMasked_k : s.allMasked.k = s.k := rfl
@[simp] theorem State.allMasked_gpr : s.allMasked.gpr = s.gpr := rfl
@[simp] theorem State.allMasked_pc : s.allMasked.pc = s.pc := rfl
@[simp] theorem State.allMasked_mxcsr : s.allMasked.mxcsr = s.mxcsr &&& ~~~0x3F#32 ||| 0x1F80#32 := rfl
@[simp] theorem State.allMasked_eflags : s.allMasked.eflags = s.eflags := rfl
@[simp] theorem State.allMasked_cr0 : s.allMasked.cr0 = s.cr0 := rfl
@[simp] theorem State.allMasked_cr4 : s.allMasked.cr4 = s.cr4 := rfl
@[simp] theorem State.allMasked_xcr0 : s.allMasked.xcr0 = s.xcr0 := rfl
@[simp] theorem State.allMasked_cpuid : s.allMasked.cpuid = s.cpuid := rfl
@[simp] theorem State.allMasked_mode : s.allMasked.mode = s.mode := rfl
@[simp] theorem State.allMasked_cpl : s.allMasked.cpl = s.cpl := rfl
@[simp] theorem State.allMasked_segBase : s.allMasked.segBase = s.segBase := rfl
@[simp] theorem State.allMasked_translation : s.allMasked.translation = s.translation := rfl
@[simp] theorem State.allMasked_mem : s.allMasked.mem = s.mem := rfl

/-! ## Registers after a write -/

@[simp] theorem State.vec_setVec_same (r : VReg) (v : Zmm) : (s.setVec r v).vec r = v := by
  simp [State.vec, State.setVec]

theorem State.vec_setVec_other (r q : VReg) (v : Zmm) (h : q ≠ r) : (s.setVec r v).vec q = s.vec q := by
  have : r.toNat ≠ q.toNat := fun e => h (BitVec.eq_of_toNat_eq e.symm)
  simp [State.vec, State.setVec, this]

@[simp] theorem State.opmask_setOpmask_same (r : KReg) (v : BitVec 64) : (s.setOpmask r v).opmask r = v := by
  simp [State.opmask, State.setOpmask]

theorem State.opmask_setOpmask_other (r q : KReg) (v : BitVec 64) (h : q ≠ r) :
    (s.setOpmask r v).opmask q = s.opmask q := by
  have : r.toNat ≠ q.toNat := fun e => h (BitVec.eq_of_toNat_eq e.symm)
  simp [State.opmask, State.setOpmask, this]

@[simp] theorem State.general_setGeneral_same (r : GReg) (v : BitVec 64) : (s.setGeneral r v).general r = v := by
  simp [State.general, State.setGeneral]

theorem State.general_setGeneral_other (r q : GReg) (v : BitVec 64) (h : q ≠ r) :
    (s.setGeneral r v).general q = s.general q := by
  have : r.toNat ≠ q.toNat := fun e => h (BitVec.eq_of_toNat_eq e.symm)
  simp [State.general, State.setGeneral, this]

/-! ## Registers after other updates -/

@[simp] theorem State.vec_setByte (a : Address) (b : Byte) (q : VReg) : (s.setByte a b).vec q = s.vec q := rfl
@[simp] theorem State.vec_setOpmask (r : KReg) (v : BitVec 64) (q : VReg) : (s.setOpmask r v).vec q = s.vec q := rfl
@[simp] theorem State.vec_setGeneral (r : GReg) (v : BitVec 64) (q : VReg) : (s.setGeneral r v).vec q = s.vec q := rfl
@[simp] theorem State.vec_advance (n : Nat) (q : VReg) : (s.advance n).vec q = s.vec q := rfl
@[simp] theorem State.vec_orFlags (f : Flags) (q : VReg) : (s.orFlags f).vec q = s.vec q := rfl
@[simp] theorem State.vec_setStatus (b : BitVec 32) (q : VReg) : (s.setStatus b).vec q = s.vec q := rfl
@[simp] theorem State.vec_enabled (q : VReg) : s.enabled.vec q = s.vec q := rfl
@[simp] theorem State.vec_allMasked (q : VReg) : s.allMasked.vec q = s.vec q := rfl
@[simp] theorem State.opmask_setByte (a : Address) (b : Byte) (q : KReg) : (s.setByte a b).opmask q = s.opmask q := rfl
@[simp] theorem State.opmask_setVec (r : VReg) (v : Zmm) (q : KReg) : (s.setVec r v).opmask q = s.opmask q := rfl
@[simp] theorem State.opmask_setGeneral (r : GReg) (v : BitVec 64) (q : KReg) : (s.setGeneral r v).opmask q = s.opmask q := rfl
@[simp] theorem State.opmask_advance (n : Nat) (q : KReg) : (s.advance n).opmask q = s.opmask q := rfl
@[simp] theorem State.opmask_orFlags (f : Flags) (q : KReg) : (s.orFlags f).opmask q = s.opmask q := rfl
@[simp] theorem State.opmask_setStatus (b : BitVec 32) (q : KReg) : (s.setStatus b).opmask q = s.opmask q := rfl
@[simp] theorem State.opmask_enabled (q : KReg) : s.enabled.opmask q = s.opmask q := rfl
@[simp] theorem State.opmask_allMasked (q : KReg) : s.allMasked.opmask q = s.opmask q := rfl
@[simp] theorem State.general_setByte (a : Address) (b : Byte) (q : GReg) : (s.setByte a b).general q = s.general q := rfl
@[simp] theorem State.general_setVec (r : VReg) (v : Zmm) (q : GReg) : (s.setVec r v).general q = s.general q := rfl
@[simp] theorem State.general_setOpmask (r : KReg) (v : BitVec 64) (q : GReg) : (s.setOpmask r v).general q = s.general q := rfl
@[simp] theorem State.general_advance (n : Nat) (q : GReg) : (s.advance n).general q = s.general q := rfl
@[simp] theorem State.general_orFlags (f : Flags) (q : GReg) : (s.orFlags f).general q = s.general q := rfl
@[simp] theorem State.general_setStatus (b : BitVec 32) (q : GReg) : (s.setStatus b).general q = s.general q := rfl
@[simp] theorem State.general_enabled (q : GReg) : s.enabled.general q = s.general q := rfl
@[simp] theorem State.general_allMasked (q : GReg) : s.allMasked.general q = s.general q := rfl

@[simp] theorem State.byteAt_setVec (r : VReg) (v : Zmm) (x : Address) : (s.setVec r v).byteAt x = s.byteAt x := rfl
@[simp] theorem State.byteAt_setOpmask (r : KReg) (v : BitVec 64) (x : Address) : (s.setOpmask r v).byteAt x = s.byteAt x := rfl
@[simp] theorem State.byteAt_setGeneral (r : GReg) (v : BitVec 64) (x : Address) : (s.setGeneral r v).byteAt x = s.byteAt x := rfl
@[simp] theorem State.byteAt_advance (n : Nat) (x : Address) : (s.advance n).byteAt x = s.byteAt x := rfl
@[simp] theorem State.byteAt_orFlags (f : Flags) (x : Address) : (s.orFlags f).byteAt x = s.byteAt x := rfl
@[simp] theorem State.byteAt_setStatus (b : BitVec 32) (x : Address) : (s.setStatus b).byteAt x = s.byteAt x := rfl
@[simp] theorem State.byteAt_enabled (x : Address) : s.enabled.byteAt x = s.byteAt x := rfl
@[simp] theorem State.byteAt_allMasked (x : Address) : s.allMasked.byteAt x = s.byteAt x := rfl

/-! ## MXCSR with every exception masked -/

@[simp] theorem State.daz_allMasked : s.allMasked.daz = s.daz := by simp [State.daz]

@[simp] theorem State.rc_allMasked : s.allMasked.rc = s.rc := by
  unfold State.rc
  congr 1
  ext i hi
  obtain rfl | rfl : i = 0 ∨ i = 1 := by omega
  all_goals simp

@[simp] theorem State.masks_allMasked : s.allMasked.masks = BitVec.allOnes 6 := by
  ext i hi
  obtain rfl | rfl | rfl | rfl | rfl | rfl : i = 0 ∨ i = 1 ∨ i = 2 ∨ i = 3 ∨ i = 4 ∨ i = 5 := by omega
  all_goals simp [State.masks]

/-! ## Translation -/

/-- Without a row every byte lies at its own address (spec/20_memory.md R70). -/
theorem State.translate_nil (h : s.translation = []) (m : MemAccess) (o : Nat) :
    s.translate m o = .mapped 0 := by simp [State.translate, h]

theorem State.physical_nil (h : s.translation = []) (m : MemAccess) (o : Nat) : s.physical m o = m.at o := by
  simp [State.physical, State.translate_nil s h]

/-- The first row that answers for a byte decides. -/
theorem State.translate_first {r : Region} {rest : List Region} (h : s.translation = r :: rest) (m : MemAccess) (o : Nat) :
    s.translate m o = if r.answers m o then r.kind else { s with translation := rest }.translate m o := by
  simp only [State.translate, h, List.find?_cons]
  cases r.answers m o <;> simp

end Sys2Proof.Machine
end

