-- ==== Sys2Proof/Laws/Memory.lean ====
section
/-! SUPPORT. Memory: every write keeps the canonical form, a read after a write gives the byte written, and a write leaves
every other byte alone. -/

namespace Sys2Proof.Machine

/-! ## The canonical form -/

theorem memWf_tail {c : Host.Cell} {m : List Host.Cell} (h : memWf (c :: m) = true) : memWf m = true := by
  cases m with
  | nil => rfl
  | cons d m => simp [memWf] at h; exact h.2

theorem memWf_head {c : Host.Cell} {m : List Host.Cell} (h : memWf (c :: m) = true) : c.2 ≠ unlisted := by
  cases m <;> simp [memWf] at h
  · exact h
  · exact h.1.1

/-- Every address of the rest lies above the head's. -/
theorem memWf_lt {c : Host.Cell} {m : List Host.Cell} (h : memWf (c :: m) = true) : ∀ d ∈ m, c.1 < d.1 := by
  induction m generalizing c with
  | nil => simp
  | cons e m ih =>
    simp only [memWf, Bool.and_eq_true, decide_eq_true_eq] at h
    intro d hd
    rcases List.mem_cons.1 hd with rfl | hd
    · exact h.1.2
    · exact lt_trans h.1.2 (ih h.2 d hd)

theorem memWf_cons {c : Host.Cell} {m : List Host.Cell} (hc : c.2 ≠ unlisted) (hl : ∀ d ∈ m, c.1 < d.1)
    (hm : memWf m = true) : memWf (c :: m) = true := by
  cases m with
  | nil => simpa [memWf] using hc
  | cons d m => simp [memWf, hc, hl d (by simp), hm]

/-- An address below every listed one reads as unlisted. -/
theorem memRead_below {m : List Host.Cell} {a : Nat} (h : ∀ d ∈ m, a < d.1) : memRead m a = unlisted := by
  cases m with
  | nil => rfl
  | cons c m =>
    have := h c (by simp)
    simp [memRead, this, Nat.ne_of_gt this]

theorem mem_memWrite {m : List Host.Cell} {a : Nat} {b : Byte} {d : Host.Cell} (h : d ∈ memWrite m a b) :
    d = (a, b) ∨ d ∈ m := by
  induction m with
  | nil => simp only [memWrite] at h; split at h <;> simp_all
  | cons c m ih =>
    simp only [memWrite] at h
    split at h
    · rcases List.mem_cons.1 h with rfl | h
      · simp
      · rcases ih h with h | h <;> simp [h]
    · split at h
      · split at h <;> simp_all
        grind
      · split at h <;> simp_all

/-- Every write keeps the canonical form. -/
theorem memWf_memWrite {m : List Host.Cell} (h : memWf m = true) (a : Nat) (b : Byte) : memWf (memWrite m a b) = true := by
  induction m with
  | nil => by_cases hb : b = unlisted <;> simp [memWrite, hb, memWf]
  | cons c m ih =>
    have hlt := memWf_lt h
    simp only [memWrite]
    split
    · refine memWf_cons (memWf_head h) (fun d hd => ?_) (ih (memWf_tail h))
      rcases mem_memWrite hd with rfl | hd
      · assumption
      · exact hlt d hd
    · split
      · split
        · exact memWf_tail h
        · rename_i e hb
          exact memWf_cons hb (fun d hd => by have := hlt d hd; simp; omega) (memWf_tail h)
      · split
        · exact h
        · rename_i hb
          refine memWf_cons hb (fun d hd => ?_) h
          rcases List.mem_cons.1 hd with rfl | hd
          · simp; omega
          · have := hlt d hd; simp; omega

/-- A read after a write. -/
theorem memRead_memWrite {m : List Host.Cell} (h : memWf m = true) (a x : Nat) (b : Byte) :
    memRead (memWrite m a b) x = if x = a then b else memRead m x := by
  induction m with
  | nil => by_cases hb : b = unlisted <;> simp [memWrite, memRead, hb]; split <;> split <;> simp_all
  | cons c m ih =>
    have hlt := memWf_lt h
    have ih := ih (memWf_tail h)
    have hbelow : ∀ y, y ≤ c.1 → memRead m y = unlisted := fun y hy => memRead_below fun d hd => by
      have := hlt d hd; omega
    simp only [memWrite]
    split
    · simp only [memRead, ih]
      split
      · have : ¬ x = a := by omega
        simp [this]
      · split
        · have : ¬ x = a := by omega
          simp [this]
        · rfl
    · split
      · rename_i e
        split
        · rename_i hb
          by_cases hx : x = a
          · subst hx; simp [hb, hbelow x (by omega)]
          · simp only [hx, if_false, memRead]
            have : ¬ c.1 = x := by omega
            simp only [this, if_false]
            split
            · rw [hbelow x (by omega)]
            · rfl
        · simp only [memRead]
          by_cases hx : x = a
          · subst hx; simp
          · have h1 : ¬ a = x := fun e => hx e.symm
            have h2 : ¬ c.1 = x := by omega
            simp only [h1, hx, if_false, e]
      · split
        · rename_i hb
          by_cases hx : x = a
          · subst hx
            have h1 : ¬ c.1 = x := by omega
            have h2 : x < c.1 := by omega
            simp [memRead, h1, h2, hb]
          · simp [hx]
        · by_cases hx : x = a
          · subst hx; simp [memRead]
          · have h1 : ¬ a = x := fun e => hx e.symm
            simp only [memRead, h1, hx, if_false]
            split
            · have h3 : ¬ c.1 = x := by omega
              have h4 : x < c.1 := by omega
              simp [h3, h4]
            · rfl

/-! ## The operations of the machine -/

theorem State.memWf_setByte {s : State} (h : memWf s.mem = true) (a : Address) (b : Byte) :
    memWf (s.setByte a b).mem = true := memWf_memWrite h _ _

theorem State.byteAt_setByte {s : State} (h : memWf s.mem = true) (a x : Address) (b : Byte) :
    (s.setByte a b).byteAt x = if x = a then b else s.byteAt x := by
  simp only [State.byteAt, State.setByte_mem, memRead_memWrite h, BitVec.toNat_inj]

theorem State.memWf_storeBytes {s : State} (h : memWf s.mem = true) (m : MemAccess) (v : Zmm) (n : Nat) :
    memWf (s.storeBytes m v n).mem = true := by
  induction n with
  | zero => exact h
  | succ n ih => exact State.memWf_setByte ih _ _

/-- A store leaves every byte outside its `n` addresses alone. -/
theorem State.byteAt_storeBytes_other {s : State} (h : memWf s.mem = true) (m : MemAccess) (v : Zmm) (n : Nat) (x : Address)
    (hx : ∀ o < n, x ≠ s.physical m o) : (s.storeBytes m v n).byteAt x = s.byteAt x := by
  induction n with
  | zero => rfl
  | succ n ih =>
    rw [State.storeBytes, State.byteAt_setByte (State.memWf_storeBytes h m v n),
      if_neg (hx n (Nat.lt_succ_self n)), ih fun o ho => hx o (Nat.lt_succ_of_lt ho)]

/-- A store writes byte `o` of the value at the address of offset `o`, where no two offsets share an address. -/
theorem State.byteAt_storeBytes_same {s : State} (h : memWf s.mem = true) (m : MemAccess) (v : Zmm) (n : Nat)
    (hd : ∀ i < n, ∀ j < n, s.physical m i = s.physical m j → i = j) :
    ∀ o < n, (s.storeBytes m v n).byteAt (s.physical m o) = lane 8 o v := by
  induction n with
  | zero => intro o ho; omega
  | succ n ih =>
    intro o ho
    rw [State.storeBytes, State.byteAt_setByte (State.memWf_storeBytes h m v n)]
    by_cases e : o = n
    · subst e; simp
    · rw [if_neg fun x => e (hd o ho n (by omega) x)]
      exact ih (fun i hi j hj => hd i (by omega) j (by omega)) o (by omega)

/-- A store changes memory only. -/
theorem State.storeBytes_eq (s : State) (m : MemAccess) (v : Zmm) (n : Nat) :
    s.storeBytes m v n = { s with mem := (s.storeBytes m v n).mem } := by
  induction n with
  | zero => rfl
  | succ n ih => simp only [State.storeBytes, State.setByte]; rw [ih]

theorem State.memWf_withBytes {s : State} (h : memWf s.mem = true) (a : Address) (bs : List Byte) :
    memWf (s.withBytes a bs).mem = true := by
  induction bs generalizing s a with
  | nil => exact h
  | cons b bs ih => exact ih (State.memWf_setByte h a b) (a + 1)

theorem State.memWf_reset : memWf State.reset.mem = true := rfl

end Sys2Proof.Machine
end

