-- ==== Sys2Proof/Laws/Vector.lean ====
section
/-! SUPPORT. Vectors as elements: what a vector assembled from elements holds at each of them and above them. -/

namespace Sys2Proof.Machine

/-! ## Assembling -/

theorem assembleNat_lt (w n : Nat) (f : Nat → BitVec w) : assembleNat w n f < 2 ^ (w * n) := by
  induction n with
  | zero => simp [assembleNat]
  | succ n ih =>
    have h : (f n).toNat * 2 ^ (w * n) ≤ (2 ^ w - 1) * 2 ^ (w * n) :=
      Nat.mul_le_mul_right _ (Nat.le_sub_one_of_lt (f n).isLt)
    have h2 : 2 ^ (w * (n + 1)) = 2 ^ w * 2 ^ (w * n) := by rw [← Nat.pow_add]; ring_nf
    have h3 : (2 ^ w - 1) * 2 ^ (w * n) + 2 ^ (w * n) = 2 ^ w * 2 ^ (w * n) := by
      rw [← Nat.succ_mul, Nat.succ_eq_add_one, Nat.sub_add_cancel Nat.one_le_two_pow]
    simp only [assembleNat]
    omega

/-- Digit `i` of an assembled number. -/
theorem assembleNat_digit (w n : Nat) (f : Nat → BitVec w) (i : Nat) (h : i < n) :
    assembleNat w n f / 2 ^ (w * i) % 2 ^ w = (f i).toNat := by
  induction n with
  | zero => omega
  | succ n ih =>
    simp only [assembleNat]
    by_cases e : i = n
    · subst e
      rw [Nat.add_mul_div_right _ _ (Nat.two_pow_pos _), Nat.div_eq_of_lt (assembleNat_lt w i f), Nat.zero_add,
        Nat.mod_eq_of_lt (f i).isLt]
    · have hi : i < n := by omega
      have hs : 2 ^ (w * n) = 2 ^ (w * i) * (2 ^ w * 2 ^ (w * (n - i - 1))) := by
        rw [← Nat.pow_add, ← Nat.pow_add]
        congr 1
        obtain ⟨d, rfl⟩ := Nat.exists_eq_add_of_lt hi
        have : i + d + 1 - i - 1 = d := by omega
        rw [this]; ring
      have : (f n).toNat * 2 ^ (w * n) = 2 ^ (w * i) * (2 ^ w * ((f n).toNat * 2 ^ (w * (n - i - 1)))) := by
        rw [hs]; ring
      rw [this, Nat.add_mul_div_left _ _ (Nat.two_pow_pos _), Nat.add_mul_mod_self_left, ih hi]

theorem toNat_assemble (w n : Nat) (f : Nat → BitVec w) (h : w * n ≤ 512) :
    (assemble w n f).toNat = assembleNat w n f := by
  rw [assemble, BitVec.toNat_ofNat]
  exact Nat.mod_eq_of_lt (lt_of_lt_of_le (assembleNat_lt w n f) (Nat.pow_le_pow_right (by omega) h))

/-- Element `i` of an assembled vector. -/
theorem lane_assemble (w n : Nat) (f : Nat → BitVec w) (i : Nat) (hi : i < n) (h : w * n ≤ 512) :
    lane w i (assemble w n f) = f i := by
  apply BitVec.eq_of_toNat_eq
  rw [lane, BitVec.extractLsb'_toNat, toNat_assemble w n f h, Nat.shiftRight_eq_div_pow, assembleNat_digit w n f i hi]

/-- An assembled vector is 0 above its elements. -/
theorem getLsbD_assemble_above (w n : Nat) (f : Nat → BitVec w) (h : w * n ≤ 512) (b : Nat) (hb : w * n ≤ b) :
    (assemble w n f).getLsbD b = false := by
  rw [BitVec.getLsbD, toNat_assemble w n f h]
  exact Nat.testBit_lt_two_pow (lt_of_lt_of_le (assembleNat_lt w n f) (Nat.pow_le_pow_right (by omega) hb))

/-! ## The masked writes -/

/-- Element `j` of a vector destination (spec/30_encoding.md R112). -/
theorem lane_maskedVec (w n : Nat) (active : Nat → Bool) (z : Bool) (old : Zmm) (res : Nat → BitVec w) (j : Nat)
    (hj : j < n) (h : w * n ≤ 512) :
    lane w j (maskedVec w n active z old res) = if active j then res j else if z then 0 else lane w j old :=
  lane_assemble w n _ j hj h

/-- A vector destination is 0 above its elements (spec/10_state.md R21). -/
theorem getLsbD_maskedVec_above (w n : Nat) (active : Nat → Bool) (z : Bool) (old : Zmm) (res : Nat → BitVec w)
    (h : w * n ≤ 512) (b : Nat) (hb : w * n ≤ b) : (maskedVec w n active z old res).getLsbD b = false :=
  getLsbD_assemble_above w n _ h b hb

/-- Bit `j` of an opmask destination (spec/30_encoding.md R113). -/
theorem getLsbD_maskBits (n : Nat) (active bitAt : Nat → Bool) (hn : n ≤ 64) (j : Nat) :
    (maskBits n active bitAt).getLsbD j = (decide (j < n) && active j && bitAt j) := by
  have hlt := assembleNat_lt 1 n fun j => BitVec.ofBool (active j && bitAt j)
  have hto : (maskBits n active bitAt).toNat = assembleNat 1 n fun j => BitVec.ofBool (active j && bitAt j) := by
    rw [maskBits, BitVec.toNat_ofNat]
    exact Nat.mod_eq_of_lt (lt_of_lt_of_le hlt (Nat.pow_le_pow_right (by omega) (by omega)))
  rw [BitVec.getLsbD, hto]
  by_cases hj : j < n
  · have hd := assembleNat_digit 1 n (fun j => BitVec.ofBool (active j && bitAt j)) j hj
    simp only [Nat.one_mul, Nat.pow_one] at hd
    rw [Nat.testBit_eq_decide_div_mod_eq, hd]
    cases active j <;> cases bitAt j <;> simp [hj]
  · rw [Nat.testBit_lt_two_pow (lt_of_lt_of_le hlt (Nat.pow_le_pow_right (by omega) (by omega)))]
    simp [hj]

/-- A broadcast element stands in every position (spec/20_memory.md R66). -/
theorem lane_replicateElem (bytes : Nat) (v : Zmm) (j : Nat) (hj : j < 64 / bytes) :
    lane (8 * bytes) j (replicateElem bytes v) = lane (8 * bytes) 0 v := by
  refine lane_assemble _ _ _ j hj ?_
  have := Nat.div_mul_le_self 64 bytes
  nlinarith

end Sys2Proof.Machine
end

