-- ==== Sys2Proof/Laws/Exec.lean ====
section
/-! SUPPORT. Everything the shared operations can do, once: the checks at the start, the source, the flags, the completion,
and the execution of each kind of destination. `exec_outcome` says it for every instruction. -/

namespace Sys2Proof.Machine

/-! ## Exceptions -/

@[simp] theorem raise_ne_next (e : Exc) (s t : State) : raise e s ≠ .next t := by
  cases e <;> simp [raise]

@[simp] theorem raise_ne_refused (e : Exc) (s : State) (r : Refusal) : raise e s ≠ .refused r := by
  cases e <;> simp [raise]

/-- A raised exception carries its kind and its state. -/
theorem raise_eq_fault {e : Exc} {s : State} {f : Fault} (h : raise e s = .fault f) : f.exc = e ∧ f.state = s := by
  cases e <;> simp only [raise, Host.Outcome.fault.injEq] at h <;> subst h <;> exact ⟨rfl, rfl⟩

/-- Every exception is a fault. -/
theorem raise_is_fault (e : Exc) (s : State) : ∃ f : Fault, raise e s = .fault f ∧ f.exc = e ∧ f.state = s := by
  cases e <;> exact ⟨_, rfl, rfl, rfl⟩

/-! ## The checks at the start -/

theorem guarded_undefined {op : Op} {s : State} {rest : Out} (h : s.undefinedHere op.info.feature = true) :
    guarded op s rest = raise .ud s := by simp [guarded, h]

theorem guarded_unavailable {op : Op} {s : State} {rest : Out} (h : s.undefinedHere op.info.feature = false)
    (ht : s.ts = true) : guarded op s rest = raise .nm s := by simp [guarded, h, ht]

theorem guarded_ready {op : Op} {s : State} {rest : Out} (h : Ready s op) : guarded op s rest = rest := by
  have h1 : (s.mode == .real) = false := beq_eq_false_iff_ne.2 h.notReal
  have h2 : (s.mode == .virtual8086) = false := beq_eq_false_iff_ne.2 h.notVirtual
  have hu : s.undefinedHere op.info.feature = false := by
    simp only [State.undefinedHere, State.osxsave, State.xcr0Enabled, h.osxsave, h.sse, h.avx, h.opmask, h.zmmHi256,
      h.hi16Zmm, h.cpuid, h1, h2, Bool.and_self, Bool.not_true, Bool.or_self]
  have ht : s.ts = false := h.notTaskSwitch
  simp only [guarded, hu, ht, Bool.false_eq_true, if_false]

theorem ready_of_defined {op : Op} {s : State} (h : s.undefinedHere op.info.feature = false) (ht : s.ts = false) :
    Ready s op := by
  simp [State.undefinedHere, State.osxsave, State.xcr0Enabled] at h
  constructor <;> simp_all [State.ts]

/-! ## The completion -/

theorem complete_fits {n : Nat} {s : State} (h : s.pcFits n = true) : complete n s = .next (s.advance n) := by
  simp [complete, h]

theorem complete_overflow {n : Nat} {s : State} (h : s.pcFits n = false) : complete n s = .refused .pcOverflow := by
  simp [complete, h]

theorem fits_iff (s : State) (i : Instr) : Fits s i ↔ s.pcFits i.length = true := by simp [Fits, State.pcFits]

@[simp] theorem State.pcFits_orFlags (s : State) (f : Flags) (n : Nat) : (s.orFlags f).pcFits n = s.pcFits n := rfl
@[simp] theorem State.pcFits_setVec (s : State) (r : VReg) (v : Zmm) (n : Nat) :
    (s.setVec r v).pcFits n = s.pcFits n := rfl
@[simp] theorem State.pcFits_setOpmask (s : State) (r : KReg) (v : BitVec 64) (n : Nat) :
    (s.setOpmask r v).pcFits n = s.pcFits n := rfl
@[simp] theorem State.pcFits_setGeneral (s : State) (r : GReg) (v : BitVec 64) (n : Nat) :
    (s.setGeneral r v).pcFits n = s.pcFits n := rfl
@[simp] theorem State.pcFits_setStatus (s : State) (b : BitVec 32) (n : Nat) :
    (s.setStatus b).pcFits n = s.pcFits n := rfl
@[simp] theorem State.pcFits_storeBytes (s : State) (m : MemAccess) (v : Zmm) (k n : Nat) :
    (s.storeBytes m v k).pcFits n = s.pcFits n := by rw [State.storeBytes_eq]; rfl

/-! ## Flags -/

theorem signal_quiet {op : Op} {loc : Loc} {f : Flags} {s : State} {rest : State → Out} (h : Quiet s loc f) :
    signal op loc f s rest = rest (s.orFlags (effectiveFlags loc f)) := by
  rcases h with h | h <;> simp [signal, State.unmasked, effectiveFlags, h]
  split <;> simp_all

@[simp] theorem orFlags_zero (s : State) : s.orFlags 0#6 = s := by simp [State.orFlags]

theorem signal_zero (op : Op) (loc : Loc) (s : State) (rest : State → Out) : signal op loc 0 s rest = rest s := by
  rw [signal_quiet (Or.inr (by simp))]
  simp [effectiveFlags]

theorem collectFlags_zero (active : Nat → Bool) (n : Nat) : collectFlags active (fun _ => 0#6) n = 0#6 := by
  induction n with
  | zero => rfl
  | succ n ih => simp [collectFlags, ih]

/-- A compare writes no bit of EFLAGS but the six status flags. -/
theorem setStatus_frame (s : State) (b : BitVec 32) (h : b &&& ~~~statusMask = 0) :
    (s.setStatus b).eflags &&& ~~~statusMask = s.eflags &&& ~~~statusMask := by
  have : ((s.eflags &&& ~~~statusMask) ||| b) &&& ~~~statusMask = (s.eflags &&& ~~~statusMask) ||| (b &&& ~~~statusMask) := by
    ext i hi; simp; grind
  simp [this, h]

theorem comxStatus_frame (r : Rel) : r.comxStatus &&& ~~~statusMask = 0 := by cases r <;> decide

theorem comisStatus_frame (r : Rel) : r.comisStatus &&& ~~~statusMask = 0 := by cases r <;> decide

/-! ## What an instruction can do -/

/-- The memory fault of the operand of a form, if it has one. -/
def operandFault (p : Parts) (s : State) : Option Exc :=
  if p.op.target = .store then s.storeFault p.op p.raw.rm
  else
    match s.source p.op p.vl p.raw with
    | .error e => some e
    | .ok _ => none

/-- What a completed instruction has written before its pc advances, `F` being the flags it signalled. -/
inductive Effect (p : Parts) (s : State) (F : Flags) : State → Prop
  | vector (v : Zmm) (ht : p.op.target = .vector) (hv : ∀ b, p.op.destBits p.vl ≤ b → v.getLsbD b = false) :
      Effect p s F ((s.orFlags F).setVec p.raw.reg v)
  | opmask (v : BitVec 64) (ht : p.op.target = .opmask) (hF : F = 0) (hv : ∀ b, p.vl.words ≤ b → v.getLsbD b = false) :
      Effect p s F (s.setOpmask (p.raw.reg.setWidth 3) v)
  | status (b : BitVec 32) (ht : p.op.target = .status) (hb : b &&& ~~~statusMask = 0) :
      Effect p s F ((s.orFlags F).setStatus b)
  | general (v : BitVec 64) (ht : p.op.target = .general) : Effect p s F ((s.orFlags F).setGeneral (p.raw.reg.setWidth 4) v)
  | store (ht : p.op.target = .store) (hF : F = 0) :
      Effect p s F (s.stored p.op p.raw.rm (p.op.destBits p.vl) (s.vec p.raw.reg))

/-- The outcomes of an instruction, in the order of spec/30_encoding.md R114. -/
inductive ExecOutcome (p : Parts) (s : State) : Out → Prop
  | undefined (h : s.undefinedHere p.op.info.feature = true) : ExecOutcome p s (raise .ud s)
  | unavailable (h : s.undefinedHere p.op.info.feature = false) (ht : s.ts = true) : ExecOutcome p s (raise .nm s)
  | memory (e : Exc) (h : Ready s p.op) (he : operandFault p s = some e) : ExecOutcome p s (raise e s)
  | simd (F : Flags) (h : Ready s p.op) (he : operandFault p s = none) (hsae : p.raw.rm.loc.sae = false)
      (hc : p.op.info.cls.consultsMasks = true) (hF : F &&& ~~~s.masks ≠ 0) :
      ExecOutcome p s (raise (if s.osxmmexcpt then .xm else .ud) (s.orFlags F))
  | overflow (h : Ready s p.op) (he : operandFault p s = none) (hp : s.pcFits (p.op.length p.raw.rm) = false) :
      ExecOutcome p s (.refused .pcOverflow)
  | done (F : Flags) (u : State) (h : Ready s p.op) (he : operandFault p s = none)
      (hp : s.pcFits (p.op.length p.raw.rm) = true) (hsae : p.raw.rm.loc.sae = true → F = 0)
      (hm : p.op.info.cls.consultsMasks = true → F &&& ~~~s.masks = 0) (hu : Effect p s F u) :
      ExecOutcome p s (.next (u.advance (p.op.length p.raw.rm)))

/-- The start of every instruction. -/
theorem ExecOutcome.of_guarded {p : Parts} {s : State} {rest : Out} (h : Ready s p.op → ExecOutcome p s rest) :
    ExecOutcome p s (guarded p.op s rest) := by
  cases hu : s.undefinedHere p.op.info.feature with
  | true => rw [guarded_undefined hu]; exact .undefined hu
  | false =>
    cases ht : s.ts with
    | true => rw [guarded_unavailable hu ht]; exact .unavailable hu ht
    | false =>
      have hr := ready_of_defined hu ht
      rw [guarded_ready hr]; exact h hr

/-- The source. -/
theorem ExecOutcome.of_withSource {p : Parts} {s : State} {rest : Zmm → Out} (hr : Ready s p.op)
    (ht : p.op.target ≠ .store) (h : ∀ x, s.source p.op p.vl p.raw = .ok x → operandFault p s = none → ExecOutcome p s (rest x)) :
    ExecOutcome p s (withSource p.op p.vl p.raw s rest) := by
  unfold withSource
  cases hs : s.source p.op p.vl p.raw with
  | error e => exact .memory e hr (by simp [operandFault, ht, hs])
  | ok x => exact h x hs (by simp [operandFault, ht, hs])

/-- The flags. -/
theorem ExecOutcome.of_signal {p : Parts} {s : State} {f : Flags} {rest : State → Out} (hr : Ready s p.op)
    (he : operandFault p s = none)
    (h : ∀ F, (p.raw.rm.loc.sae = true → F = 0) → (p.op.info.cls.consultsMasks = true → F &&& ~~~s.masks = 0) →
      F = effectiveFlags p.raw.rm.loc f → ExecOutcome p s (rest (s.orFlags F))) :
    ExecOutcome p s (signal p.op p.raw.rm.loc f s rest) := by
  unfold signal
  simp only []
  split
  · rename_i hu
    simp only [State.unmasked, Bool.and_eq_true, bne_iff_ne, ne_eq] at hu
    refine .simd _ hr he ?_ hu.1 hu.2
    by_contra hs
    simp only [Bool.not_eq_false] at hs
    exact hu.2 (by simp [effectiveFlags, hs])
  · rename_i hu
    refine h _ (fun hs => by simp [effectiveFlags, hs]) (fun hc => ?_) rfl
    simpa [State.unmasked, hc] using hu

/-- The completion. -/
theorem ExecOutcome.of_complete {p : Parts} {s u : State} {F : Flags} (hr : Ready s p.op) (he : operandFault p s = none)
    (hsae : p.raw.rm.loc.sae = true → F = 0) (hm : p.op.info.cls.consultsMasks = true → F &&& ~~~s.masks = 0)
    (hu : Effect p s F u) (hp : u.pcFits (p.op.length p.raw.rm) = s.pcFits (p.op.length p.raw.rm)) :
    ExecOutcome p s (complete (p.op.length p.raw.rm) u) := by
  cases hf : s.pcFits (p.op.length p.raw.rm) with
  | true => rw [complete_fits (hp.trans hf)]; exact .done F u hr he hf hsae hm hu
  | false => rw [complete_overflow (hp.trans hf)]; exact .overflow hr he hf

/-! ## Each kind of destination -/

theorem VL.bits_le (vl : VL) : vl.bits ≤ 512 := by cases vl <;> simp [VL.bits]

theorem execVec_outcome (op : Op) (vl : VL) (raw : Raw) (w n : Nat) (elem : Sources → Nat → Elem w) (s : State)
    (ht : op.target = .vector) (hn : w * n = op.destBits vl) (hle : w * n ≤ 512) :
    ExecOutcome ⟨op, vl, raw⟩ s (execVec op vl raw w n elem s) :=
  .of_guarded (p := ⟨op, vl, raw⟩) fun hr => .of_withSource hr (by simp [ht]) fun x _ he =>
    .of_signal hr he fun F hsae hm _ => .of_complete hr he hsae hm
      (.vector (p := ⟨op, vl, raw⟩) _ ht fun b hb => getLsbD_maskedVec_above _ _ _ _ _ _ hle b (by simp only [hn]; exact hb)) rfl

/-- The bits of a scalar result: element 0, then bits 127:w of the first source, then 0 (spec/46_minmax.md R347, R349). -/
theorem getLsbD_scalarResult (w : Nat) (active z : Bool) (old src1 : Zmm) (r : BitVec w) (hw : w ≤ 128) (b : Nat) :
    (scalarResult w active z old src1 r).getLsbD b =
      if b < w then (if active then r else if z then 0 else lane w 0 old).getLsbD b
      else decide (b < 128) && src1.getLsbD b := by
  unfold scalarResult
  generalize (if active then r else if z then 0 else lane w 0 old) = x
  have hy : src1.toNat / 2 ^ w * 2 ^ w % 2 ^ 128 = 2 ^ w * (src1.toNat / 2 ^ w % 2 ^ (128 - w)) := by
    rw [Nat.mul_comm, ← Nat.mul_mod_mul_left, ← Nat.pow_add, Nat.add_sub_cancel' hw]
  have hlt : 2 ^ w * (src1.toNat / 2 ^ w % 2 ^ (128 - w)) + x.toNat < 2 ^ 128 := by
    have h1 := x.isLt
    have h2 : src1.toNat / 2 ^ w % 2 ^ (128 - w) + 1 ≤ 2 ^ (128 - w) := Nat.mod_lt _ (Nat.two_pow_pos _)
    have h3 := Nat.mul_le_mul_left (2 ^ w) h2
    rw [← Nat.pow_add, Nat.add_sub_cancel' hw, Nat.mul_add, Nat.mul_one] at h3
    omega
  have hlt' : 2 ^ w * (src1.toNat / 2 ^ w % 2 ^ (128 - w)) + x.toNat < 2 ^ 512 :=
    lt_of_lt_of_le hlt (Nat.pow_le_pow_right (by omega) (by omega))
  rw [hy, Nat.add_comm, BitVec.getLsbD, BitVec.toNat_ofNat, Nat.mod_eq_of_lt hlt', Nat.testBit_two_pow_mul_add _ x.isLt]
  split
  · rfl
  · rename_i hb
    rw [Nat.testBit_mod_two_pow, Nat.testBit_div_two_pow, BitVec.getLsbD, Nat.sub_add_cancel (Nat.le_of_not_lt hb)]
    congr 1
    simp only [decide_eq_decide]
    omega

theorem execScalar_outcome (op : Op) (raw : Raw) (w : Nat) (elem : Sources → Elem w) (s : State)
    (ht : op.target = .vector) (hn : op.destBits .v128 = 128) (hw : w ≤ 128) :
    ExecOutcome ⟨op, .v128, raw⟩ s (execScalar op raw w elem s) :=
  .of_guarded (p := ⟨op, .v128, raw⟩) fun hr => .of_withSource hr (by simp [ht]) fun x _ he =>
    .of_signal hr he fun F hsae hm _ => .of_complete hr he hsae hm
      (.vector (p := ⟨op, .v128, raw⟩) _ ht fun b hb => by
        simp only [hn] at hb
        rw [getLsbD_scalarResult _ _ _ _ _ _ hw, if_neg (by omega)]
        simp only [Nat.not_lt.2 hb, decide_false, Bool.false_and]) rfl

theorem execMask_outcome (op : Op) (vl : VL) (raw : Raw) (n : Nat) (bitAt : Sources → Nat → Bool) (s : State)
    (ht : op.target = .opmask) (hn : n = vl.words) (hc : op.info.cls.consultsMasks = false) :
    ExecOutcome ⟨op, vl, raw⟩ s (execMask op vl raw n bitAt s) :=
  .of_guarded (p := ⟨op, vl, raw⟩) fun hr => .of_withSource hr (by simp [ht]) fun x _ he =>
    .of_complete (F := 0) hr he (fun _ => rfl) (by simp [hc])
      (.opmask (p := ⟨op, vl, raw⟩) _ ht rfl fun b hb => by
        have h64 : n ≤ 64 := by subst hn; cases vl <;> simp [VL.words, VL.bits]
        rw [getLsbD_maskBits _ _ _ h64]
        have : ¬ b < n := by subst hn; exact Nat.not_lt.2 hb
        simp [this]) rfl

theorem execCompare_outcome (op : Op) (raw : Raw) (cmp : Sources → BitVec 32 × Flags) (s : State)
    (ht : op.target = .status) (hc : ∀ o, (cmp o).1 &&& ~~~statusMask = 0) :
    ExecOutcome ⟨op, .v128, raw⟩ s (execCompare op raw cmp s) :=
  .of_guarded (p := ⟨op, .v128, raw⟩) fun hr => .of_withSource hr (by simp [ht]) fun x _ he =>
    .of_signal hr he fun F hsae hm _ => .of_complete hr he hsae hm
      (.status (p := ⟨op, .v128, raw⟩) _ ht (hc _)) rfl

theorem execGeneral_outcome (op : Op) (raw : Raw) (conv : Sources → Elem 64) (s : State) (ht : op.target = .general) :
    ExecOutcome ⟨op, .v128, raw⟩ s (execGeneral op raw conv s) :=
  .of_guarded (p := ⟨op, .v128, raw⟩) fun hr => .of_withSource hr (by simp [ht]) fun x _ he =>
    .of_signal hr he fun F hsae hm _ => .of_complete hr he hsae hm
      (.general (p := ⟨op, .v128, raw⟩) _ ht) rfl

theorem execLoad_outcome (op : Op) (raw : Raw) (w : Nat) (s : State) (ht : op.target = .vector)
    (hn : op.destBits .v128 = w) (hc : op.info.cls.consultsMasks = false) :
    ExecOutcome ⟨op, .v128, raw⟩ s (execLoad op raw w s) :=
  .of_guarded (p := ⟨op, .v128, raw⟩) fun hr => .of_withSource hr (by simp [ht]) fun x _ he =>
    .of_complete (F := 0) hr he (fun _ => rfl) (by simp [hc])
      (by
        have := Effect.vector (p := ⟨op, .v128, raw⟩) (s := s) (F := 0) ((lane w 0 x).setWidth 512) ht fun b hb => by
          simp only [hn] at hb
          rw [BitVec.getLsbD_setWidth, BitVec.getLsbD_of_ge _ b hb, Bool.and_false]
        rwa [show s.orFlags 0 = s from orFlags_zero s] at this) rfl

theorem execStore_outcome (op : Op) (raw : Raw) (w : Nat) (s : State) (ht : op.target = .store)
    (hn : op.destBits .v128 = w) (hc : op.info.cls.consultsMasks = false) :
    ExecOutcome ⟨op, .v128, raw⟩ s (execStore op raw w s) :=
  .of_guarded (p := ⟨op, .v128, raw⟩) fun hr => by
    have hf : operandFault ⟨op, .v128, raw⟩ s = s.storeFault op raw.rm := by simp [operandFault, ht]
    cases h : s.storeFault op raw.rm with
    | some e => exact .memory e hr (hf.trans h)
    | none =>
      refine .of_complete (F := 0) hr (hf.trans h) (fun _ => rfl) (by simp [hc])
        (by subst hn; exact .store (p := ⟨op, .v128, raw⟩) ht rfl) ?_
      unfold State.stored
      split <;> simp

/-! ## Every instruction -/

theorem execVaddbf16_outcome (vl : VL) (o : VecOp3) (s : State) :
    ExecOutcome (Instr.vaddbf16 vl o).parts s (execVaddbf16 vl o s) :=
  execVec_outcome .vaddbf16 vl o.raw 16 (vl.bits / 16) _ s rfl (by cases vl <;> rfl) (by cases vl <;> decide)

theorem execVcmpbf16_outcome (vl : VL) (o : MaskOp3) (imm : BitVec 8) (s : State) :
    ExecOutcome (Instr.vcmpbf16 vl o imm).parts s (execVcmpbf16 vl o imm s) :=
  execMask_outcome .vcmpbf16 vl (o.raw imm) (vl.bits / 16) _ s rfl rfl rfl

theorem execVcomisbf16_outcome (o : RegRm) (s : State) :
    ExecOutcome (Instr.vcomisbf16 o).parts s (execVcomisbf16 o s) :=
  execCompare_outcome .vcomisbf16 o.raw _ s rfl fun _ => comisStatus_frame _

theorem execVdivbf16_outcome (vl : VL) (o : VecOp3) (s : State) :
    ExecOutcome (Instr.vdivbf16 vl o).parts s (execVdivbf16 vl o s) :=
  execVec_outcome .vdivbf16 vl o.raw 16 (vl.bits / 16) _ s rfl (by cases vl <;> rfl) (by cases vl <;> decide)

theorem execVfmadd132bf16_outcome (vl : VL) (o : VecOp3) (s : State) :
    ExecOutcome (Instr.vfmadd132bf16 vl o).parts s (execVfmadd132bf16 vl o s) :=
  execVec_outcome .vfmadd132bf16 vl o.raw 16 (vl.bits / 16) _ s rfl (by cases vl <;> rfl) (by cases vl <;> decide)

theorem execVfmadd213bf16_outcome (vl : VL) (o : VecOp3) (s : State) :
    ExecOutcome (Instr.vfmadd213bf16 vl o).parts s (execVfmadd213bf16 vl o s) :=
  execVec_outcome .vfmadd213bf16 vl o.raw 16 (vl.bits / 16) _ s rfl (by cases vl <;> rfl) (by cases vl <;> decide)

theorem execVfmadd231bf16_outcome (vl : VL) (o : VecOp3) (s : State) :
    ExecOutcome (Instr.vfmadd231bf16 vl o).parts s (execVfmadd231bf16 vl o s) :=
  execVec_outcome .vfmadd231bf16 vl o.raw 16 (vl.bits / 16) _ s rfl (by cases vl <;> rfl) (by cases vl <;> decide)

theorem execVfmsub132bf16_outcome (vl : VL) (o : VecOp3) (s : State) :
    ExecOutcome (Instr.vfmsub132bf16 vl o).parts s (execVfmsub132bf16 vl o s) :=
  execVec_outcome .vfmsub132bf16 vl o.raw 16 (vl.bits / 16) _ s rfl (by cases vl <;> rfl) (by cases vl <;> decide)

theorem execVfmsub213bf16_outcome (vl : VL) (o : VecOp3) (s : State) :
    ExecOutcome (Instr.vfmsub213bf16 vl o).parts s (execVfmsub213bf16 vl o s) :=
  execVec_outcome .vfmsub213bf16 vl o.raw 16 (vl.bits / 16) _ s rfl (by cases vl <;> rfl) (by cases vl <;> decide)

theorem execVfmsub231bf16_outcome (vl : VL) (o : VecOp3) (s : State) :
    ExecOutcome (Instr.vfmsub231bf16 vl o).parts s (execVfmsub231bf16 vl o s) :=
  execVec_outcome .vfmsub231bf16 vl o.raw 16 (vl.bits / 16) _ s rfl (by cases vl <;> rfl) (by cases vl <;> decide)

theorem execVfnmadd132bf16_outcome (vl : VL) (o : VecOp3) (s : State) :
    ExecOutcome (Instr.vfnmadd132bf16 vl o).parts s (execVfnmadd132bf16 vl o s) :=
  execVec_outcome .vfnmadd132bf16 vl o.raw 16 (vl.bits / 16) _ s rfl (by cases vl <;> rfl) (by cases vl <;> decide)

theorem execVfnmadd213bf16_outcome (vl : VL) (o : VecOp3) (s : State) :
    ExecOutcome (Instr.vfnmadd213bf16 vl o).parts s (execVfnmadd213bf16 vl o s) :=
  execVec_outcome .vfnmadd213bf16 vl o.raw 16 (vl.bits / 16) _ s rfl (by cases vl <;> rfl) (by cases vl <;> decide)

theorem execVfnmadd231bf16_outcome (vl : VL) (o : VecOp3) (s : State) :
    ExecOutcome (Instr.vfnmadd231bf16 vl o).parts s (execVfnmadd231bf16 vl o s) :=
  execVec_outcome .vfnmadd231bf16 vl o.raw 16 (vl.bits / 16) _ s rfl (by cases vl <;> rfl) (by cases vl <;> decide)

theorem execVfnmsub132bf16_outcome (vl : VL) (o : VecOp3) (s : State) :
    ExecOutcome (Instr.vfnmsub132bf16 vl o).parts s (execVfnmsub132bf16 vl o s) :=
  execVec_outcome .vfnmsub132bf16 vl o.raw 16 (vl.bits / 16) _ s rfl (by cases vl <;> rfl) (by cases vl <;> decide)

theorem execVfnmsub213bf16_outcome (vl : VL) (o : VecOp3) (s : State) :
    ExecOutcome (Instr.vfnmsub213bf16 vl o).parts s (execVfnmsub213bf16 vl o s) :=
  execVec_outcome .vfnmsub213bf16 vl o.raw 16 (vl.bits / 16) _ s rfl (by cases vl <;> rfl) (by cases vl <;> decide)

theorem execVfnmsub231bf16_outcome (vl : VL) (o : VecOp3) (s : State) :
    ExecOutcome (Instr.vfnmsub231bf16 vl o).parts s (execVfnmsub231bf16 vl o s) :=
  execVec_outcome .vfnmsub231bf16 vl o.raw 16 (vl.bits / 16) _ s rfl (by cases vl <;> rfl) (by cases vl <;> decide)

theorem execVfpclassbf16_outcome (vl : VL) (o : MaskOp2) (imm : BitVec 8) (s : State) :
    ExecOutcome (Instr.vfpclassbf16 vl o imm).parts s (execVfpclassbf16 vl o imm s) :=
  execMask_outcome .vfpclassbf16 vl (o.raw imm) (vl.bits / 16) _ s rfl rfl rfl

theorem execVgetexpbf16_outcome (vl : VL) (o : VecOp2) (s : State) :
    ExecOutcome (Instr.vgetexpbf16 vl o).parts s (execVgetexpbf16 vl o s) :=
  execVec_outcome .vgetexpbf16 vl o.raw 16 (vl.bits / 16) _ s rfl (by cases vl <;> rfl) (by cases vl <;> decide)

theorem execVgetmantbf16_outcome (vl : VL) (o : VecOp2) (imm : BitVec 8) (s : State) :
    ExecOutcome (Instr.vgetmantbf16 vl o imm).parts s (execVgetmantbf16 vl o imm s) :=
  execVec_outcome .vgetmantbf16 vl (o.raw imm) 16 (vl.bits / 16) _ s rfl (by cases vl <;> rfl) (by cases vl <;> decide)

theorem execVmaxbf16_outcome (vl : VL) (o : VecOp3) (s : State) :
    ExecOutcome (Instr.vmaxbf16 vl o).parts s (execVmaxbf16 vl o s) :=
  execVec_outcome .vmaxbf16 vl o.raw 16 (vl.bits / 16) _ s rfl (by cases vl <;> rfl) (by cases vl <;> decide)

theorem execVminbf16_outcome (vl : VL) (o : VecOp3) (s : State) :
    ExecOutcome (Instr.vminbf16 vl o).parts s (execVminbf16 vl o s) :=
  execVec_outcome .vminbf16 vl o.raw 16 (vl.bits / 16) _ s rfl (by cases vl <;> rfl) (by cases vl <;> decide)

theorem execVmulbf16_outcome (vl : VL) (o : VecOp3) (s : State) :
    ExecOutcome (Instr.vmulbf16 vl o).parts s (execVmulbf16 vl o s) :=
  execVec_outcome .vmulbf16 vl o.raw 16 (vl.bits / 16) _ s rfl (by cases vl <;> rfl) (by cases vl <;> decide)

theorem execVrcpbf16_outcome (vl : VL) (o : VecOp2) (s : State) :
    ExecOutcome (Instr.vrcpbf16 vl o).parts s (execVrcpbf16 vl o s) :=
  execVec_outcome .vrcpbf16 vl o.raw 16 (vl.bits / 16) _ s rfl (by cases vl <;> rfl) (by cases vl <;> decide)

theorem execVreducebf16_outcome (vl : VL) (o : VecOp2) (imm : BitVec 8) (s : State) :
    ExecOutcome (Instr.vreducebf16 vl o imm).parts s (execVreducebf16 vl o imm s) :=
  execVec_outcome .vreducebf16 vl (o.raw imm) 16 (vl.bits / 16) _ s rfl (by cases vl <;> rfl) (by cases vl <;> decide)

theorem execVrndscalebf16_outcome (vl : VL) (o : VecOp2) (imm : BitVec 8) (s : State) :
    ExecOutcome (Instr.vrndscalebf16 vl o imm).parts s (execVrndscalebf16 vl o imm s) :=
  execVec_outcome .vrndscalebf16 vl (o.raw imm) 16 (vl.bits / 16) _ s rfl (by cases vl <;> rfl) (by cases vl <;> decide)

theorem execVrsqrtbf16_outcome (vl : VL) (o : VecOp2) (s : State) :
    ExecOutcome (Instr.vrsqrtbf16 vl o).parts s (execVrsqrtbf16 vl o s) :=
  execVec_outcome .vrsqrtbf16 vl o.raw 16 (vl.bits / 16) _ s rfl (by cases vl <;> rfl) (by cases vl <;> decide)

theorem execVscalefbf16_outcome (vl : VL) (o : VecOp3) (s : State) :
    ExecOutcome (Instr.vscalefbf16 vl o).parts s (execVscalefbf16 vl o s) :=
  execVec_outcome .vscalefbf16 vl o.raw 16 (vl.bits / 16) _ s rfl (by cases vl <;> rfl) (by cases vl <;> decide)

theorem execVsqrtbf16_outcome (vl : VL) (o : VecOp2) (s : State) :
    ExecOutcome (Instr.vsqrtbf16 vl o).parts s (execVsqrtbf16 vl o s) :=
  execVec_outcome .vsqrtbf16 vl o.raw 16 (vl.bits / 16) _ s rfl (by cases vl <;> rfl) (by cases vl <;> decide)

theorem execVsubbf16_outcome (vl : VL) (o : VecOp3) (s : State) :
    ExecOutcome (Instr.vsubbf16 vl o).parts s (execVsubbf16 vl o s) :=
  execVec_outcome .vsubbf16 vl o.raw 16 (vl.bits / 16) _ s rfl (by cases vl <;> rfl) (by cases vl <;> decide)

theorem execVcomxsd_outcome (o : RegRm) (s : State) :
    ExecOutcome (Instr.vcomxsd o).parts s (execVcomxsd o s) :=
  execCompare_outcome .vcomxsd o.raw _ s rfl fun _ => comxStatus_frame _

theorem execVcomxsh_outcome (o : RegRm) (s : State) :
    ExecOutcome (Instr.vcomxsh o).parts s (execVcomxsh o s) :=
  execCompare_outcome .vcomxsh o.raw _ s rfl fun _ => comxStatus_frame _

theorem execVcomxss_outcome (o : RegRm) (s : State) :
    ExecOutcome (Instr.vcomxss o).parts s (execVcomxss o s) :=
  execCompare_outcome .vcomxss o.raw _ s rfl fun _ => comxStatus_frame _

theorem execVucomxsd_outcome (o : RegRm) (s : State) :
    ExecOutcome (Instr.vucomxsd o).parts s (execVucomxsd o s) :=
  execCompare_outcome .vucomxsd o.raw _ s rfl fun _ => comxStatus_frame _

theorem execVucomxsh_outcome (o : RegRm) (s : State) :
    ExecOutcome (Instr.vucomxsh o).parts s (execVucomxsh o s) :=
  execCompare_outcome .vucomxsh o.raw _ s rfl fun _ => comxStatus_frame _

theorem execVucomxss_outcome (o : RegRm) (s : State) :
    ExecOutcome (Instr.vucomxss o).parts s (execVucomxss o s) :=
  execCompare_outcome .vucomxss o.raw _ s rfl fun _ => comxStatus_frame _

theorem execVcvt2ph2bf8_outcome (vl : VL) (o : VecOp3) (s : State) :
    ExecOutcome (Instr.vcvt2ph2bf8 vl o).parts s (execVcvt2ph2bf8 vl o s) :=
  execVec_outcome .vcvt2ph2bf8 vl o.raw 8 (vl.bits / 8) _ s rfl (by cases vl <;> rfl) (by cases vl <;> decide)

theorem execVcvt2ph2bf8s_outcome (vl : VL) (o : VecOp3) (s : State) :
    ExecOutcome (Instr.vcvt2ph2bf8s vl o).parts s (execVcvt2ph2bf8s vl o s) :=
  execVec_outcome .vcvt2ph2bf8s vl o.raw 8 (vl.bits / 8) _ s rfl (by cases vl <;> rfl) (by cases vl <;> decide)

theorem execVcvt2ph2hf8_outcome (vl : VL) (o : VecOp3) (s : State) :
    ExecOutcome (Instr.vcvt2ph2hf8 vl o).parts s (execVcvt2ph2hf8 vl o s) :=
  execVec_outcome .vcvt2ph2hf8 vl o.raw 8 (vl.bits / 8) _ s rfl (by cases vl <;> rfl) (by cases vl <;> decide)

theorem execVcvt2ph2hf8s_outcome (vl : VL) (o : VecOp3) (s : State) :
    ExecOutcome (Instr.vcvt2ph2hf8s vl o).parts s (execVcvt2ph2hf8s vl o s) :=
  execVec_outcome .vcvt2ph2hf8s vl o.raw 8 (vl.bits / 8) _ s rfl (by cases vl <;> rfl) (by cases vl <;> decide)

theorem execVcvtph2bf8_outcome (vl : VL) (o : VecOp2) (s : State) :
    ExecOutcome (Instr.vcvtph2bf8 vl o).parts s (execVcvtph2bf8 vl o s) :=
  execVec_outcome .vcvtph2bf8 vl o.raw 8 (vl.bits / 16) _ s rfl (by cases vl <;> rfl) (by cases vl <;> decide)

theorem execVcvtph2bf8s_outcome (vl : VL) (o : VecOp2) (s : State) :
    ExecOutcome (Instr.vcvtph2bf8s vl o).parts s (execVcvtph2bf8s vl o s) :=
  execVec_outcome .vcvtph2bf8s vl o.raw 8 (vl.bits / 16) _ s rfl (by cases vl <;> rfl) (by cases vl <;> decide)

theorem execVcvtph2hf8_outcome (vl : VL) (o : VecOp2) (s : State) :
    ExecOutcome (Instr.vcvtph2hf8 vl o).parts s (execVcvtph2hf8 vl o s) :=
  execVec_outcome .vcvtph2hf8 vl o.raw 8 (vl.bits / 16) _ s rfl (by cases vl <;> rfl) (by cases vl <;> decide)

theorem execVcvtph2hf8s_outcome (vl : VL) (o : VecOp2) (s : State) :
    ExecOutcome (Instr.vcvtph2hf8s vl o).parts s (execVcvtph2hf8s vl o s) :=
  execVec_outcome .vcvtph2hf8s vl o.raw 8 (vl.bits / 16) _ s rfl (by cases vl <;> rfl) (by cases vl <;> decide)

theorem execVcvt2ps2phx_outcome (vl : VL) (o : VecOp3) (s : State) :
    ExecOutcome (Instr.vcvt2ps2phx vl o).parts s (execVcvt2ps2phx vl o s) :=
  execVec_outcome .vcvt2ps2phx vl o.raw 16 (vl.bits / 16) _ s rfl (by cases vl <;> rfl) (by cases vl <;> decide)

theorem execVcvtbiasph2bf8_outcome (vl : VL) (o : VecOp3) (s : State) :
    ExecOutcome (Instr.vcvtbiasph2bf8 vl o).parts s (execVcvtbiasph2bf8 vl o s) :=
  execVec_outcome .vcvtbiasph2bf8 vl o.raw 8 (vl.bits / 16) _ s rfl (by cases vl <;> rfl) (by cases vl <;> decide)

theorem execVcvtbiasph2bf8s_outcome (vl : VL) (o : VecOp3) (s : State) :
    ExecOutcome (Instr.vcvtbiasph2bf8s vl o).parts s (execVcvtbiasph2bf8s vl o s) :=
  execVec_outcome .vcvtbiasph2bf8s vl o.raw 8 (vl.bits / 16) _ s rfl (by cases vl <;> rfl) (by cases vl <;> decide)

theorem execVcvtbiasph2hf8_outcome (vl : VL) (o : VecOp3) (s : State) :
    ExecOutcome (Instr.vcvtbiasph2hf8 vl o).parts s (execVcvtbiasph2hf8 vl o s) :=
  execVec_outcome .vcvtbiasph2hf8 vl o.raw 8 (vl.bits / 16) _ s rfl (by cases vl <;> rfl) (by cases vl <;> decide)

theorem execVcvtbiasph2hf8s_outcome (vl : VL) (o : VecOp3) (s : State) :
    ExecOutcome (Instr.vcvtbiasph2hf8s vl o).parts s (execVcvtbiasph2hf8s vl o s) :=
  execVec_outcome .vcvtbiasph2hf8s vl o.raw 8 (vl.bits / 16) _ s rfl (by cases vl <;> rfl) (by cases vl <;> decide)

theorem execVcvthf82ph_outcome (vl : VL) (o : VecOp2) (s : State) :
    ExecOutcome (Instr.vcvthf82ph vl o).parts s (execVcvthf82ph vl o s) :=
  execVec_outcome .vcvthf82ph vl o.raw 16 (vl.bits / 16) _ s rfl (by cases vl <;> rfl) (by cases vl <;> decide)

theorem execVdphphs_outcome (vl : VL) (o : VecOp3) (s : State) :
    ExecOutcome (Instr.vdphphs vl o).parts s (execVdphphs vl o s) :=
  execVec_outcome .vdphphs vl o.raw 32 (vl.bits / 32) _ s rfl (by cases vl <;> rfl) (by cases vl <;> decide)

theorem execVmpsadbw_outcome (vl : VL) (o : VecOp3) (imm : BitVec 8) (s : State) :
    ExecOutcome (Instr.vmpsadbw vl o imm).parts s (execVmpsadbw vl o imm s) :=
  execVec_outcome .vmpsadbw vl (o.raw imm) 16 (vl.bits / 16) _ s rfl (by cases vl <;> rfl) (by cases vl <;> decide)

theorem execVpdpbssd_outcome (vl : VL) (o : VecOp3) (s : State) :
    ExecOutcome (Instr.vpdpbssd vl o).parts s (execVpdpbssd vl o s) :=
  execVec_outcome .vpdpbssd vl o.raw 32 (vl.bits / 32) _ s rfl (by cases vl <;> rfl) (by cases vl <;> decide)

theorem execVpdpbssds_outcome (vl : VL) (o : VecOp3) (s : State) :
    ExecOutcome (Instr.vpdpbssds vl o).parts s (execVpdpbssds vl o s) :=
  execVec_outcome .vpdpbssds vl o.raw 32 (vl.bits / 32) _ s rfl (by cases vl <;> rfl) (by cases vl <;> decide)

theorem execVpdpbsud_outcome (vl : VL) (o : VecOp3) (s : State) :
    ExecOutcome (Instr.vpdpbsud vl o).parts s (execVpdpbsud vl o s) :=
  execVec_outcome .vpdpbsud vl o.raw 32 (vl.bits / 32) _ s rfl (by cases vl <;> rfl) (by cases vl <;> decide)

theorem execVpdpbsuds_outcome (vl : VL) (o : VecOp3) (s : State) :
    ExecOutcome (Instr.vpdpbsuds vl o).parts s (execVpdpbsuds vl o s) :=
  execVec_outcome .vpdpbsuds vl o.raw 32 (vl.bits / 32) _ s rfl (by cases vl <;> rfl) (by cases vl <;> decide)

theorem execVpdpbuud_outcome (vl : VL) (o : VecOp3) (s : State) :
    ExecOutcome (Instr.vpdpbuud vl o).parts s (execVpdpbuud vl o s) :=
  execVec_outcome .vpdpbuud vl o.raw 32 (vl.bits / 32) _ s rfl (by cases vl <;> rfl) (by cases vl <;> decide)

theorem execVpdpbuuds_outcome (vl : VL) (o : VecOp3) (s : State) :
    ExecOutcome (Instr.vpdpbuuds vl o).parts s (execVpdpbuuds vl o s) :=
  execVec_outcome .vpdpbuuds vl o.raw 32 (vl.bits / 32) _ s rfl (by cases vl <;> rfl) (by cases vl <;> decide)

theorem execVpdpwsud_outcome (vl : VL) (o : VecOp3) (s : State) :
    ExecOutcome (Instr.vpdpwsud vl o).parts s (execVpdpwsud vl o s) :=
  execVec_outcome .vpdpwsud vl o.raw 32 (vl.bits / 32) _ s rfl (by cases vl <;> rfl) (by cases vl <;> decide)

theorem execVpdpwsuds_outcome (vl : VL) (o : VecOp3) (s : State) :
    ExecOutcome (Instr.vpdpwsuds vl o).parts s (execVpdpwsuds vl o s) :=
  execVec_outcome .vpdpwsuds vl o.raw 32 (vl.bits / 32) _ s rfl (by cases vl <;> rfl) (by cases vl <;> decide)

theorem execVpdpwusd_outcome (vl : VL) (o : VecOp3) (s : State) :
    ExecOutcome (Instr.vpdpwusd vl o).parts s (execVpdpwusd vl o s) :=
  execVec_outcome .vpdpwusd vl o.raw 32 (vl.bits / 32) _ s rfl (by cases vl <;> rfl) (by cases vl <;> decide)

theorem execVpdpwusds_outcome (vl : VL) (o : VecOp3) (s : State) :
    ExecOutcome (Instr.vpdpwusds vl o).parts s (execVpdpwusds vl o s) :=
  execVec_outcome .vpdpwusds vl o.raw 32 (vl.bits / 32) _ s rfl (by cases vl <;> rfl) (by cases vl <;> decide)

theorem execVpdpwuud_outcome (vl : VL) (o : VecOp3) (s : State) :
    ExecOutcome (Instr.vpdpwuud vl o).parts s (execVpdpwuud vl o s) :=
  execVec_outcome .vpdpwuud vl o.raw 32 (vl.bits / 32) _ s rfl (by cases vl <;> rfl) (by cases vl <;> decide)

theorem execVpdpwuuds_outcome (vl : VL) (o : VecOp3) (s : State) :
    ExecOutcome (Instr.vpdpwuuds vl o).parts s (execVpdpwuuds vl o s) :=
  execVec_outcome .vpdpwuuds vl o.raw 32 (vl.bits / 32) _ s rfl (by cases vl <;> rfl) (by cases vl <;> decide)

theorem execVminmaxbf16_outcome (vl : VL) (o : VecOp3) (imm : BitVec 8) (s : State) :
    ExecOutcome (Instr.vminmaxbf16 vl o imm).parts s (execVminmaxbf16 vl o imm s) :=
  execVec_outcome .vminmaxbf16 vl (o.raw imm) 16 (vl.bits / 16) _ s rfl (by cases vl <;> rfl) (by cases vl <;> decide)

theorem execVminmaxpd_outcome (vl : VL) (o : VecOp3) (imm : BitVec 8) (s : State) :
    ExecOutcome (Instr.vminmaxpd vl o imm).parts s (execVminmaxpd vl o imm s) :=
  execVec_outcome .vminmaxpd vl (o.raw imm) 64 (vl.bits / 64) _ s rfl (by cases vl <;> rfl) (by cases vl <;> decide)

theorem execVminmaxph_outcome (vl : VL) (o : VecOp3) (imm : BitVec 8) (s : State) :
    ExecOutcome (Instr.vminmaxph vl o imm).parts s (execVminmaxph vl o imm s) :=
  execVec_outcome .vminmaxph vl (o.raw imm) 16 (vl.bits / 16) _ s rfl (by cases vl <;> rfl) (by cases vl <;> decide)

theorem execVminmaxps_outcome (vl : VL) (o : VecOp3) (imm : BitVec 8) (s : State) :
    ExecOutcome (Instr.vminmaxps vl o imm).parts s (execVminmaxps vl o imm s) :=
  execVec_outcome .vminmaxps vl (o.raw imm) 32 (vl.bits / 32) _ s rfl (by cases vl <;> rfl) (by cases vl <;> decide)

theorem execVminmaxsd_outcome (o : VecOp3) (imm : BitVec 8) (s : State) :
    ExecOutcome (Instr.vminmaxsd o imm).parts s (execVminmaxsd o imm s) :=
  execScalar_outcome .vminmaxsd (o.raw imm) 64 _ s rfl rfl (by decide)

theorem execVminmaxsh_outcome (o : VecOp3) (imm : BitVec 8) (s : State) :
    ExecOutcome (Instr.vminmaxsh o imm).parts s (execVminmaxsh o imm s) :=
  execScalar_outcome .vminmaxsh (o.raw imm) 16 _ s rfl rfl (by decide)

theorem execVminmaxss_outcome (o : VecOp3) (imm : BitVec 8) (s : State) :
    ExecOutcome (Instr.vminmaxss o imm).parts s (execVminmaxss o imm s) :=
  execScalar_outcome .vminmaxss (o.raw imm) 32 _ s rfl rfl (by decide)

theorem execVcvtbf162ibs_outcome (vl : VL) (o : VecOp2) (s : State) :
    ExecOutcome (Instr.vcvtbf162ibs vl o).parts s (execVcvtbf162ibs vl o s) :=
  execVec_outcome .vcvtbf162ibs vl o.raw 16 (vl.bits / 16) _ s rfl (by cases vl <;> rfl) (by cases vl <;> decide)

theorem execVcvtbf162iubs_outcome (vl : VL) (o : VecOp2) (s : State) :
    ExecOutcome (Instr.vcvtbf162iubs vl o).parts s (execVcvtbf162iubs vl o s) :=
  execVec_outcome .vcvtbf162iubs vl o.raw 16 (vl.bits / 16) _ s rfl (by cases vl <;> rfl) (by cases vl <;> decide)

theorem execVcvttbf162ibs_outcome (vl : VL) (o : VecOp2) (s : State) :
    ExecOutcome (Instr.vcvttbf162ibs vl o).parts s (execVcvttbf162ibs vl o s) :=
  execVec_outcome .vcvttbf162ibs vl o.raw 16 (vl.bits / 16) _ s rfl (by cases vl <;> rfl) (by cases vl <;> decide)

theorem execVcvttbf162iubs_outcome (vl : VL) (o : VecOp2) (s : State) :
    ExecOutcome (Instr.vcvttbf162iubs vl o).parts s (execVcvttbf162iubs vl o s) :=
  execVec_outcome .vcvttbf162iubs vl o.raw 16 (vl.bits / 16) _ s rfl (by cases vl <;> rfl) (by cases vl <;> decide)

theorem execVcvttpd2dqs_outcome (vl : VL) (o : VecOp2) (s : State) :
    ExecOutcome (Instr.vcvttpd2dqs vl o).parts s (execVcvttpd2dqs vl o s) :=
  execVec_outcome .vcvttpd2dqs vl o.raw 32 (vl.bits / 64) _ s rfl (by cases vl <;> rfl) (by cases vl <;> decide)

theorem execVcvttpd2qqs_outcome (vl : VL) (o : VecOp2) (s : State) :
    ExecOutcome (Instr.vcvttpd2qqs vl o).parts s (execVcvttpd2qqs vl o s) :=
  execVec_outcome .vcvttpd2qqs vl o.raw 64 (vl.bits / 64) _ s rfl (by cases vl <;> rfl) (by cases vl <;> decide)

theorem execVcvttpd2udqs_outcome (vl : VL) (o : VecOp2) (s : State) :
    ExecOutcome (Instr.vcvttpd2udqs vl o).parts s (execVcvttpd2udqs vl o s) :=
  execVec_outcome .vcvttpd2udqs vl o.raw 32 (vl.bits / 64) _ s rfl (by cases vl <;> rfl) (by cases vl <;> decide)

theorem execVcvttpd2uqqs_outcome (vl : VL) (o : VecOp2) (s : State) :
    ExecOutcome (Instr.vcvttpd2uqqs vl o).parts s (execVcvttpd2uqqs vl o s) :=
  execVec_outcome .vcvttpd2uqqs vl o.raw 64 (vl.bits / 64) _ s rfl (by cases vl <;> rfl) (by cases vl <;> decide)

theorem execVcvtph2ibs_outcome (vl : VL) (o : VecOp2) (s : State) :
    ExecOutcome (Instr.vcvtph2ibs vl o).parts s (execVcvtph2ibs vl o s) :=
  execVec_outcome .vcvtph2ibs vl o.raw 16 (vl.bits / 16) _ s rfl (by cases vl <;> rfl) (by cases vl <;> decide)

theorem execVcvtph2iubs_outcome (vl : VL) (o : VecOp2) (s : State) :
    ExecOutcome (Instr.vcvtph2iubs vl o).parts s (execVcvtph2iubs vl o s) :=
  execVec_outcome .vcvtph2iubs vl o.raw 16 (vl.bits / 16) _ s rfl (by cases vl <;> rfl) (by cases vl <;> decide)

theorem execVcvttph2ibs_outcome (vl : VL) (o : VecOp2) (s : State) :
    ExecOutcome (Instr.vcvttph2ibs vl o).parts s (execVcvttph2ibs vl o s) :=
  execVec_outcome .vcvttph2ibs vl o.raw 16 (vl.bits / 16) _ s rfl (by cases vl <;> rfl) (by cases vl <;> decide)

theorem execVcvttph2iubs_outcome (vl : VL) (o : VecOp2) (s : State) :
    ExecOutcome (Instr.vcvttph2iubs vl o).parts s (execVcvttph2iubs vl o s) :=
  execVec_outcome .vcvttph2iubs vl o.raw 16 (vl.bits / 16) _ s rfl (by cases vl <;> rfl) (by cases vl <;> decide)

theorem execVcvttps2dqs_outcome (vl : VL) (o : VecOp2) (s : State) :
    ExecOutcome (Instr.vcvttps2dqs vl o).parts s (execVcvttps2dqs vl o s) :=
  execVec_outcome .vcvttps2dqs vl o.raw 32 (vl.bits / 32) _ s rfl (by cases vl <;> rfl) (by cases vl <;> decide)

theorem execVcvtps2ibs_outcome (vl : VL) (o : VecOp2) (s : State) :
    ExecOutcome (Instr.vcvtps2ibs vl o).parts s (execVcvtps2ibs vl o s) :=
  execVec_outcome .vcvtps2ibs vl o.raw 32 (vl.bits / 32) _ s rfl (by cases vl <;> rfl) (by cases vl <;> decide)

theorem execVcvtps2iubs_outcome (vl : VL) (o : VecOp2) (s : State) :
    ExecOutcome (Instr.vcvtps2iubs vl o).parts s (execVcvtps2iubs vl o s) :=
  execVec_outcome .vcvtps2iubs vl o.raw 32 (vl.bits / 32) _ s rfl (by cases vl <;> rfl) (by cases vl <;> decide)

theorem execVcvttps2ibs_outcome (vl : VL) (o : VecOp2) (s : State) :
    ExecOutcome (Instr.vcvttps2ibs vl o).parts s (execVcvttps2ibs vl o s) :=
  execVec_outcome .vcvttps2ibs vl o.raw 32 (vl.bits / 32) _ s rfl (by cases vl <;> rfl) (by cases vl <;> decide)

theorem execVcvttps2iubs_outcome (vl : VL) (o : VecOp2) (s : State) :
    ExecOutcome (Instr.vcvttps2iubs vl o).parts s (execVcvttps2iubs vl o s) :=
  execVec_outcome .vcvttps2iubs vl o.raw 32 (vl.bits / 32) _ s rfl (by cases vl <;> rfl) (by cases vl <;> decide)

theorem execVcvttps2qqs_outcome (vl : VL) (o : VecOp2) (s : State) :
    ExecOutcome (Instr.vcvttps2qqs vl o).parts s (execVcvttps2qqs vl o s) :=
  execVec_outcome .vcvttps2qqs vl o.raw 64 (vl.bits / 64) _ s rfl (by cases vl <;> rfl) (by cases vl <;> decide)

theorem execVcvttps2udqs_outcome (vl : VL) (o : VecOp2) (s : State) :
    ExecOutcome (Instr.vcvttps2udqs vl o).parts s (execVcvttps2udqs vl o s) :=
  execVec_outcome .vcvttps2udqs vl o.raw 32 (vl.bits / 32) _ s rfl (by cases vl <;> rfl) (by cases vl <;> decide)

theorem execVcvttps2uqqs_outcome (vl : VL) (o : VecOp2) (s : State) :
    ExecOutcome (Instr.vcvttps2uqqs vl o).parts s (execVcvttps2uqqs vl o s) :=
  execVec_outcome .vcvttps2uqqs vl o.raw 64 (vl.bits / 64) _ s rfl (by cases vl <;> rfl) (by cases vl <;> decide)

theorem execVcvttsd2sisR32_outcome (o : GprRm) (s : State) :
    ExecOutcome (Instr.vcvttsd2sisR32 o).parts s (execVcvttsd2sisR32 o s) :=
  execGeneral_outcome .vcvttsd2sisR32 o.raw _ s rfl

theorem execVcvttsd2sisR64_outcome (o : GprRm) (s : State) :
    ExecOutcome (Instr.vcvttsd2sisR64 o).parts s (execVcvttsd2sisR64 o s) :=
  execGeneral_outcome .vcvttsd2sisR64 o.raw _ s rfl

theorem execVcvttsd2usisR32_outcome (o : GprRm) (s : State) :
    ExecOutcome (Instr.vcvttsd2usisR32 o).parts s (execVcvttsd2usisR32 o s) :=
  execGeneral_outcome .vcvttsd2usisR32 o.raw _ s rfl

theorem execVcvttsd2usisR64_outcome (o : GprRm) (s : State) :
    ExecOutcome (Instr.vcvttsd2usisR64 o).parts s (execVcvttsd2usisR64 o s) :=
  execGeneral_outcome .vcvttsd2usisR64 o.raw _ s rfl

theorem execVcvttss2sisR32_outcome (o : GprRm) (s : State) :
    ExecOutcome (Instr.vcvttss2sisR32 o).parts s (execVcvttss2sisR32 o s) :=
  execGeneral_outcome .vcvttss2sisR32 o.raw _ s rfl

theorem execVcvttss2sisR64_outcome (o : GprRm) (s : State) :
    ExecOutcome (Instr.vcvttss2sisR64 o).parts s (execVcvttss2sisR64 o s) :=
  execGeneral_outcome .vcvttss2sisR64 o.raw _ s rfl

theorem execVcvttss2usisR32_outcome (o : GprRm) (s : State) :
    ExecOutcome (Instr.vcvttss2usisR32 o).parts s (execVcvttss2usisR32 o s) :=
  execGeneral_outcome .vcvttss2usisR32 o.raw _ s rfl

theorem execVcvttss2usisR64_outcome (o : GprRm) (s : State) :
    ExecOutcome (Instr.vcvttss2usisR64 o).parts s (execVcvttss2usisR64 o s) :=
  execGeneral_outcome .vcvttss2usisR64 o.raw _ s rfl

theorem execVmovdLoad_outcome (o : RegRm) (s : State) :
    ExecOutcome (Instr.vmovdLoad o).parts s (execVmovdLoad o s) :=
  execLoad_outcome .vmovdLoad o.raw 32 s rfl rfl rfl

theorem execVmovdStore_outcome (o : RegRm) (s : State) :
    ExecOutcome (Instr.vmovdStore o).parts s (execVmovdStore o s) :=
  execStore_outcome .vmovdStore o.raw 32 s rfl rfl rfl

theorem execVmovwLoad_outcome (o : RegRm) (s : State) :
    ExecOutcome (Instr.vmovwLoad o).parts s (execVmovwLoad o s) :=
  execLoad_outcome .vmovwLoad o.raw 16 s rfl rfl rfl

theorem execVmovwStore_outcome (o : RegRm) (s : State) :
    ExecOutcome (Instr.vmovwStore o).parts s (execVmovwStore o s) :=
  execStore_outcome .vmovwStore o.raw 16 s rfl rfl rfl

/-- Every instruction does one of the things of `ExecOutcome` (spec/30_encoding.md R114). -/
theorem exec_outcome (i : Instr) (s : State) : ExecOutcome i.parts s (exec i s) := by
  cases i with
  | vaddbf16 vl o => exact execVaddbf16_outcome vl o s
  | vcmpbf16 vl o imm => exact execVcmpbf16_outcome vl o imm s
  | vcomisbf16 o => exact execVcomisbf16_outcome o s
  | vdivbf16 vl o => exact execVdivbf16_outcome vl o s
  | vfmadd132bf16 vl o => exact execVfmadd132bf16_outcome vl o s
  | vfmadd213bf16 vl o => exact execVfmadd213bf16_outcome vl o s
  | vfmadd231bf16 vl o => exact execVfmadd231bf16_outcome vl o s
  | vfmsub132bf16 vl o => exact execVfmsub132bf16_outcome vl o s
  | vfmsub213bf16 vl o => exact execVfmsub213bf16_outcome vl o s
  | vfmsub231bf16 vl o => exact execVfmsub231bf16_outcome vl o s
  | vfnmadd132bf16 vl o => exact execVfnmadd132bf16_outcome vl o s
  | vfnmadd213bf16 vl o => exact execVfnmadd213bf16_outcome vl o s
  | vfnmadd231bf16 vl o => exact execVfnmadd231bf16_outcome vl o s
  | vfnmsub132bf16 vl o => exact execVfnmsub132bf16_outcome vl o s
  | vfnmsub213bf16 vl o => exact execVfnmsub213bf16_outcome vl o s
  | vfnmsub231bf16 vl o => exact execVfnmsub231bf16_outcome vl o s
  | vfpclassbf16 vl o imm => exact execVfpclassbf16_outcome vl o imm s
  | vgetexpbf16 vl o => exact execVgetexpbf16_outcome vl o s
  | vgetmantbf16 vl o imm => exact execVgetmantbf16_outcome vl o imm s
  | vmaxbf16 vl o => exact execVmaxbf16_outcome vl o s
  | vminbf16 vl o => exact execVminbf16_outcome vl o s
  | vmulbf16 vl o => exact execVmulbf16_outcome vl o s
  | vrcpbf16 vl o => exact execVrcpbf16_outcome vl o s
  | vreducebf16 vl o imm => exact execVreducebf16_outcome vl o imm s
  | vrndscalebf16 vl o imm => exact execVrndscalebf16_outcome vl o imm s
  | vrsqrtbf16 vl o => exact execVrsqrtbf16_outcome vl o s
  | vscalefbf16 vl o => exact execVscalefbf16_outcome vl o s
  | vsqrtbf16 vl o => exact execVsqrtbf16_outcome vl o s
  | vsubbf16 vl o => exact execVsubbf16_outcome vl o s
  | vcomxsd o => exact execVcomxsd_outcome o s
  | vcomxsh o => exact execVcomxsh_outcome o s
  | vcomxss o => exact execVcomxss_outcome o s
  | vucomxsd o => exact execVucomxsd_outcome o s
  | vucomxsh o => exact execVucomxsh_outcome o s
  | vucomxss o => exact execVucomxss_outcome o s
  | vcvt2ph2bf8 vl o => exact execVcvt2ph2bf8_outcome vl o s
  | vcvt2ph2bf8s vl o => exact execVcvt2ph2bf8s_outcome vl o s
  | vcvt2ph2hf8 vl o => exact execVcvt2ph2hf8_outcome vl o s
  | vcvt2ph2hf8s vl o => exact execVcvt2ph2hf8s_outcome vl o s
  | vcvtph2bf8 vl o => exact execVcvtph2bf8_outcome vl o s
  | vcvtph2bf8s vl o => exact execVcvtph2bf8s_outcome vl o s
  | vcvtph2hf8 vl o => exact execVcvtph2hf8_outcome vl o s
  | vcvtph2hf8s vl o => exact execVcvtph2hf8s_outcome vl o s
  | vcvt2ps2phx vl o => exact execVcvt2ps2phx_outcome vl o s
  | vcvtbiasph2bf8 vl o => exact execVcvtbiasph2bf8_outcome vl o s
  | vcvtbiasph2bf8s vl o => exact execVcvtbiasph2bf8s_outcome vl o s
  | vcvtbiasph2hf8 vl o => exact execVcvtbiasph2hf8_outcome vl o s
  | vcvtbiasph2hf8s vl o => exact execVcvtbiasph2hf8s_outcome vl o s
  | vcvthf82ph vl o => exact execVcvthf82ph_outcome vl o s
  | vdphphs vl o => exact execVdphphs_outcome vl o s
  | vmpsadbw vl o imm => exact execVmpsadbw_outcome vl o imm s
  | vpdpbssd vl o => exact execVpdpbssd_outcome vl o s
  | vpdpbssds vl o => exact execVpdpbssds_outcome vl o s
  | vpdpbsud vl o => exact execVpdpbsud_outcome vl o s
  | vpdpbsuds vl o => exact execVpdpbsuds_outcome vl o s
  | vpdpbuud vl o => exact execVpdpbuud_outcome vl o s
  | vpdpbuuds vl o => exact execVpdpbuuds_outcome vl o s
  | vpdpwsud vl o => exact execVpdpwsud_outcome vl o s
  | vpdpwsuds vl o => exact execVpdpwsuds_outcome vl o s
  | vpdpwusd vl o => exact execVpdpwusd_outcome vl o s
  | vpdpwusds vl o => exact execVpdpwusds_outcome vl o s
  | vpdpwuud vl o => exact execVpdpwuud_outcome vl o s
  | vpdpwuuds vl o => exact execVpdpwuuds_outcome vl o s
  | vminmaxbf16 vl o imm => exact execVminmaxbf16_outcome vl o imm s
  | vminmaxpd vl o imm => exact execVminmaxpd_outcome vl o imm s
  | vminmaxph vl o imm => exact execVminmaxph_outcome vl o imm s
  | vminmaxps vl o imm => exact execVminmaxps_outcome vl o imm s
  | vminmaxsd o imm => exact execVminmaxsd_outcome o imm s
  | vminmaxsh o imm => exact execVminmaxsh_outcome o imm s
  | vminmaxss o imm => exact execVminmaxss_outcome o imm s
  | vcvtbf162ibs vl o => exact execVcvtbf162ibs_outcome vl o s
  | vcvtbf162iubs vl o => exact execVcvtbf162iubs_outcome vl o s
  | vcvttbf162ibs vl o => exact execVcvttbf162ibs_outcome vl o s
  | vcvttbf162iubs vl o => exact execVcvttbf162iubs_outcome vl o s
  | vcvttpd2dqs vl o => exact execVcvttpd2dqs_outcome vl o s
  | vcvttpd2qqs vl o => exact execVcvttpd2qqs_outcome vl o s
  | vcvttpd2udqs vl o => exact execVcvttpd2udqs_outcome vl o s
  | vcvttpd2uqqs vl o => exact execVcvttpd2uqqs_outcome vl o s
  | vcvtph2ibs vl o => exact execVcvtph2ibs_outcome vl o s
  | vcvtph2iubs vl o => exact execVcvtph2iubs_outcome vl o s
  | vcvttph2ibs vl o => exact execVcvttph2ibs_outcome vl o s
  | vcvttph2iubs vl o => exact execVcvttph2iubs_outcome vl o s
  | vcvttps2dqs vl o => exact execVcvttps2dqs_outcome vl o s
  | vcvtps2ibs vl o => exact execVcvtps2ibs_outcome vl o s
  | vcvtps2iubs vl o => exact execVcvtps2iubs_outcome vl o s
  | vcvttps2ibs vl o => exact execVcvttps2ibs_outcome vl o s
  | vcvttps2iubs vl o => exact execVcvttps2iubs_outcome vl o s
  | vcvttps2qqs vl o => exact execVcvttps2qqs_outcome vl o s
  | vcvttps2udqs vl o => exact execVcvttps2udqs_outcome vl o s
  | vcvttps2uqqs vl o => exact execVcvttps2uqqs_outcome vl o s
  | vcvttsd2sisR32 o => exact execVcvttsd2sisR32_outcome o s
  | vcvttsd2sisR64 o => exact execVcvttsd2sisR64_outcome o s
  | vcvttsd2usisR32 o => exact execVcvttsd2usisR32_outcome o s
  | vcvttsd2usisR64 o => exact execVcvttsd2usisR64_outcome o s
  | vcvttss2sisR32 o => exact execVcvttss2sisR32_outcome o s
  | vcvttss2sisR64 o => exact execVcvttss2sisR64_outcome o s
  | vcvttss2usisR32 o => exact execVcvttss2usisR32_outcome o s
  | vcvttss2usisR64 o => exact execVcvttss2usisR64_outcome o s
  | vmovdLoad o => exact execVmovdLoad_outcome o s
  | vmovdStore o => exact execVmovdStore_outcome o s
  | vmovwLoad o => exact execVmovwLoad_outcome o s
  | vmovwStore o => exact execVmovwStore_outcome o s

end Sys2Proof.Machine
end

