-- ==== Sys2Proof/Laws/PerInstr.lean ====
section
/-! SUPPORT. A statement about every form as syntax: its parts give it back, so no operand field of any form is
dropped on the way to the encoding table. -/

namespace Sys2Proof.Laws.PartsRoundTrip

/-- Taking a form apart and putting it together again changes nothing. -/
def Statement (i : Instr) : Prop := i.parts.instr = i

theorem vaddbf16 (vl : VL) (o : VecOp3) : Statement (.vaddbf16 vl o) := rfl
theorem vcmpbf16 (vl : VL) (o : MaskOp3) (imm : BitVec 8) : Statement (.vcmpbf16 vl o imm) := by
  simp [Statement, Instr.parts, Parts.instr, MaskOp3.raw, Raw.mask3]
theorem vcomisbf16 (o : RegRm) : Statement (.vcomisbf16 o) := rfl
theorem vdivbf16 (vl : VL) (o : VecOp3) : Statement (.vdivbf16 vl o) := rfl
theorem vfmadd132bf16 (vl : VL) (o : VecOp3) : Statement (.vfmadd132bf16 vl o) := rfl
theorem vfmadd213bf16 (vl : VL) (o : VecOp3) : Statement (.vfmadd213bf16 vl o) := rfl
theorem vfmadd231bf16 (vl : VL) (o : VecOp3) : Statement (.vfmadd231bf16 vl o) := rfl
theorem vfmsub132bf16 (vl : VL) (o : VecOp3) : Statement (.vfmsub132bf16 vl o) := rfl
theorem vfmsub213bf16 (vl : VL) (o : VecOp3) : Statement (.vfmsub213bf16 vl o) := rfl
theorem vfmsub231bf16 (vl : VL) (o : VecOp3) : Statement (.vfmsub231bf16 vl o) := rfl
theorem vfnmadd132bf16 (vl : VL) (o : VecOp3) : Statement (.vfnmadd132bf16 vl o) := rfl
theorem vfnmadd213bf16 (vl : VL) (o : VecOp3) : Statement (.vfnmadd213bf16 vl o) := rfl
theorem vfnmadd231bf16 (vl : VL) (o : VecOp3) : Statement (.vfnmadd231bf16 vl o) := rfl
theorem vfnmsub132bf16 (vl : VL) (o : VecOp3) : Statement (.vfnmsub132bf16 vl o) := rfl
theorem vfnmsub213bf16 (vl : VL) (o : VecOp3) : Statement (.vfnmsub213bf16 vl o) := rfl
theorem vfnmsub231bf16 (vl : VL) (o : VecOp3) : Statement (.vfnmsub231bf16 vl o) := rfl
theorem vfpclassbf16 (vl : VL) (o : MaskOp2) (imm : BitVec 8) : Statement (.vfpclassbf16 vl o imm) := by
  simp [Statement, Instr.parts, Parts.instr, MaskOp2.raw, Raw.mask2]
theorem vgetexpbf16 (vl : VL) (o : VecOp2) : Statement (.vgetexpbf16 vl o) := rfl
theorem vgetmantbf16 (vl : VL) (o : VecOp2) (imm : BitVec 8) : Statement (.vgetmantbf16 vl o imm) := rfl
theorem vmaxbf16 (vl : VL) (o : VecOp3) : Statement (.vmaxbf16 vl o) := rfl
theorem vminbf16 (vl : VL) (o : VecOp3) : Statement (.vminbf16 vl o) := rfl
theorem vmulbf16 (vl : VL) (o : VecOp3) : Statement (.vmulbf16 vl o) := rfl
theorem vrcpbf16 (vl : VL) (o : VecOp2) : Statement (.vrcpbf16 vl o) := rfl
theorem vreducebf16 (vl : VL) (o : VecOp2) (imm : BitVec 8) : Statement (.vreducebf16 vl o imm) := rfl
theorem vrndscalebf16 (vl : VL) (o : VecOp2) (imm : BitVec 8) : Statement (.vrndscalebf16 vl o imm) := rfl
theorem vrsqrtbf16 (vl : VL) (o : VecOp2) : Statement (.vrsqrtbf16 vl o) := rfl
theorem vscalefbf16 (vl : VL) (o : VecOp3) : Statement (.vscalefbf16 vl o) := rfl
theorem vsqrtbf16 (vl : VL) (o : VecOp2) : Statement (.vsqrtbf16 vl o) := rfl
theorem vsubbf16 (vl : VL) (o : VecOp3) : Statement (.vsubbf16 vl o) := rfl
theorem vcomxsd (o : RegRm) : Statement (.vcomxsd o) := rfl
theorem vcomxsh (o : RegRm) : Statement (.vcomxsh o) := rfl
theorem vcomxss (o : RegRm) : Statement (.vcomxss o) := rfl
theorem vucomxsd (o : RegRm) : Statement (.vucomxsd o) := rfl
theorem vucomxsh (o : RegRm) : Statement (.vucomxsh o) := rfl
theorem vucomxss (o : RegRm) : Statement (.vucomxss o) := rfl
theorem vcvt2ph2bf8 (vl : VL) (o : VecOp3) : Statement (.vcvt2ph2bf8 vl o) := rfl
theorem vcvt2ph2bf8s (vl : VL) (o : VecOp3) : Statement (.vcvt2ph2bf8s vl o) := rfl
theorem vcvt2ph2hf8 (vl : VL) (o : VecOp3) : Statement (.vcvt2ph2hf8 vl o) := rfl
theorem vcvt2ph2hf8s (vl : VL) (o : VecOp3) : Statement (.vcvt2ph2hf8s vl o) := rfl
theorem vcvtph2bf8 (vl : VL) (o : VecOp2) : Statement (.vcvtph2bf8 vl o) := rfl
theorem vcvtph2bf8s (vl : VL) (o : VecOp2) : Statement (.vcvtph2bf8s vl o) := rfl
theorem vcvtph2hf8 (vl : VL) (o : VecOp2) : Statement (.vcvtph2hf8 vl o) := rfl
theorem vcvtph2hf8s (vl : VL) (o : VecOp2) : Statement (.vcvtph2hf8s vl o) := rfl
theorem vcvt2ps2phx (vl : VL) (o : VecOp3) : Statement (.vcvt2ps2phx vl o) := rfl
theorem vcvtbiasph2bf8 (vl : VL) (o : VecOp3) : Statement (.vcvtbiasph2bf8 vl o) := rfl
theorem vcvtbiasph2bf8s (vl : VL) (o : VecOp3) : Statement (.vcvtbiasph2bf8s vl o) := rfl
theorem vcvtbiasph2hf8 (vl : VL) (o : VecOp3) : Statement (.vcvtbiasph2hf8 vl o) := rfl
theorem vcvtbiasph2hf8s (vl : VL) (o : VecOp3) : Statement (.vcvtbiasph2hf8s vl o) := rfl
theorem vcvthf82ph (vl : VL) (o : VecOp2) : Statement (.vcvthf82ph vl o) := rfl
theorem vdphphs (vl : VL) (o : VecOp3) : Statement (.vdphphs vl o) := rfl
theorem vmpsadbw (vl : VL) (o : VecOp3) (imm : BitVec 8) : Statement (.vmpsadbw vl o imm) := rfl
theorem vpdpbssd (vl : VL) (o : VecOp3) : Statement (.vpdpbssd vl o) := rfl
theorem vpdpbssds (vl : VL) (o : VecOp3) : Statement (.vpdpbssds vl o) := rfl
theorem vpdpbsud (vl : VL) (o : VecOp3) : Statement (.vpdpbsud vl o) := rfl
theorem vpdpbsuds (vl : VL) (o : VecOp3) : Statement (.vpdpbsuds vl o) := rfl
theorem vpdpbuud (vl : VL) (o : VecOp3) : Statement (.vpdpbuud vl o) := rfl
theorem vpdpbuuds (vl : VL) (o : VecOp3) : Statement (.vpdpbuuds vl o) := rfl
theorem vpdpwsud (vl : VL) (o : VecOp3) : Statement (.vpdpwsud vl o) := rfl
theorem vpdpwsuds (vl : VL) (o : VecOp3) : Statement (.vpdpwsuds vl o) := rfl
theorem vpdpwusd (vl : VL) (o : VecOp3) : Statement (.vpdpwusd vl o) := rfl
theorem vpdpwusds (vl : VL) (o : VecOp3) : Statement (.vpdpwusds vl o) := rfl
theorem vpdpwuud (vl : VL) (o : VecOp3) : Statement (.vpdpwuud vl o) := rfl
theorem vpdpwuuds (vl : VL) (o : VecOp3) : Statement (.vpdpwuuds vl o) := rfl
theorem vminmaxbf16 (vl : VL) (o : VecOp3) (imm : BitVec 8) : Statement (.vminmaxbf16 vl o imm) := rfl
theorem vminmaxpd (vl : VL) (o : VecOp3) (imm : BitVec 8) : Statement (.vminmaxpd vl o imm) := rfl
theorem vminmaxph (vl : VL) (o : VecOp3) (imm : BitVec 8) : Statement (.vminmaxph vl o imm) := rfl
theorem vminmaxps (vl : VL) (o : VecOp3) (imm : BitVec 8) : Statement (.vminmaxps vl o imm) := rfl
theorem vminmaxsd (o : VecOp3) (imm : BitVec 8) : Statement (.vminmaxsd o imm) := rfl
theorem vminmaxsh (o : VecOp3) (imm : BitVec 8) : Statement (.vminmaxsh o imm) := rfl
theorem vminmaxss (o : VecOp3) (imm : BitVec 8) : Statement (.vminmaxss o imm) := rfl
theorem vcvtbf162ibs (vl : VL) (o : VecOp2) : Statement (.vcvtbf162ibs vl o) := rfl
theorem vcvtbf162iubs (vl : VL) (o : VecOp2) : Statement (.vcvtbf162iubs vl o) := rfl
theorem vcvttbf162ibs (vl : VL) (o : VecOp2) : Statement (.vcvttbf162ibs vl o) := rfl
theorem vcvttbf162iubs (vl : VL) (o : VecOp2) : Statement (.vcvttbf162iubs vl o) := rfl
theorem vcvttpd2dqs (vl : VL) (o : VecOp2) : Statement (.vcvttpd2dqs vl o) := rfl
theorem vcvttpd2qqs (vl : VL) (o : VecOp2) : Statement (.vcvttpd2qqs vl o) := rfl
theorem vcvttpd2udqs (vl : VL) (o : VecOp2) : Statement (.vcvttpd2udqs vl o) := rfl
theorem vcvttpd2uqqs (vl : VL) (o : VecOp2) : Statement (.vcvttpd2uqqs vl o) := rfl
theorem vcvtph2ibs (vl : VL) (o : VecOp2) : Statement (.vcvtph2ibs vl o) := rfl
theorem vcvtph2iubs (vl : VL) (o : VecOp2) : Statement (.vcvtph2iubs vl o) := rfl
theorem vcvttph2ibs (vl : VL) (o : VecOp2) : Statement (.vcvttph2ibs vl o) := rfl
theorem vcvttph2iubs (vl : VL) (o : VecOp2) : Statement (.vcvttph2iubs vl o) := rfl
theorem vcvttps2dqs (vl : VL) (o : VecOp2) : Statement (.vcvttps2dqs vl o) := rfl
theorem vcvtps2ibs (vl : VL) (o : VecOp2) : Statement (.vcvtps2ibs vl o) := rfl
theorem vcvtps2iubs (vl : VL) (o : VecOp2) : Statement (.vcvtps2iubs vl o) := rfl
theorem vcvttps2ibs (vl : VL) (o : VecOp2) : Statement (.vcvttps2ibs vl o) := rfl
theorem vcvttps2iubs (vl : VL) (o : VecOp2) : Statement (.vcvttps2iubs vl o) := rfl
theorem vcvttps2qqs (vl : VL) (o : VecOp2) : Statement (.vcvttps2qqs vl o) := rfl
theorem vcvttps2udqs (vl : VL) (o : VecOp2) : Statement (.vcvttps2udqs vl o) := rfl
theorem vcvttps2uqqs (vl : VL) (o : VecOp2) : Statement (.vcvttps2uqqs vl o) := rfl
theorem vcvttsd2sisR32 (o : GprRm) : Statement (.vcvttsd2sisR32 o) := by
  simp [Statement, Instr.parts, Parts.instr, GprRm.raw, Raw.gprRm]
theorem vcvttsd2sisR64 (o : GprRm) : Statement (.vcvttsd2sisR64 o) := by
  simp [Statement, Instr.parts, Parts.instr, GprRm.raw, Raw.gprRm]
theorem vcvttsd2usisR32 (o : GprRm) : Statement (.vcvttsd2usisR32 o) := by
  simp [Statement, Instr.parts, Parts.instr, GprRm.raw, Raw.gprRm]
theorem vcvttsd2usisR64 (o : GprRm) : Statement (.vcvttsd2usisR64 o) := by
  simp [Statement, Instr.parts, Parts.instr, GprRm.raw, Raw.gprRm]
theorem vcvttss2sisR32 (o : GprRm) : Statement (.vcvttss2sisR32 o) := by
  simp [Statement, Instr.parts, Parts.instr, GprRm.raw, Raw.gprRm]
theorem vcvttss2sisR64 (o : GprRm) : Statement (.vcvttss2sisR64 o) := by
  simp [Statement, Instr.parts, Parts.instr, GprRm.raw, Raw.gprRm]
theorem vcvttss2usisR32 (o : GprRm) : Statement (.vcvttss2usisR32 o) := by
  simp [Statement, Instr.parts, Parts.instr, GprRm.raw, Raw.gprRm]
theorem vcvttss2usisR64 (o : GprRm) : Statement (.vcvttss2usisR64 o) := by
  simp [Statement, Instr.parts, Parts.instr, GprRm.raw, Raw.gprRm]
theorem vmovdLoad (o : RegRm) : Statement (.vmovdLoad o) := rfl
theorem vmovdStore (o : RegRm) : Statement (.vmovdStore o) := rfl
theorem vmovwLoad (o : RegRm) : Statement (.vmovwLoad o) := rfl
theorem vmovwStore (o : RegRm) : Statement (.vmovwStore o) := rfl

end Sys2Proof.Laws.PartsRoundTrip
end

