-- ==== Sys2Proof/Laws/Run.lean ====
section
/-! SUPPORT. When an instruction completes, and what it then writes: one lemma per kind of destination, over every form. -/

namespace Sys2Proof.Machine

/-! ## Flags -/

theorem getLsbD_collectFlags (active : Nat → Bool) (fl : Nat → Flags) (n b : Nat) :
    (collectFlags active fl n).getLsbD b = true ↔ ∃ j, j < n ∧ active j = true ∧ (fl j).getLsbD b = true := by
  induction n with
  | zero => simp [collectFlags]
  | succ n ih =>
    simp only [collectFlags, BitVec.getLsbD_or, Bool.or_eq_true, ih]
    constructor
    · rintro (⟨j, hj, h⟩ | h)
      · exact ⟨j, by omega, h⟩
      · split at h
        · exact ⟨n, by omega, ‹_›, h⟩
        · simp at h
    · rintro ⟨j, hj, ha, h⟩
      rcases Nat.lt_succ_iff_lt_or_eq.1 hj with hj | rfl
      · exact .inl ⟨j, hj, ha, h⟩
      · right; simp [ha, h]

/-- The union of the signalled flags is the one the execution collects. -/
theorem collectFlags_eq {s : State} {aaa : KReg} {n : Nat} {fl : Nat → Flags} {F : Flags} (h : Collected s aaa n fl F) :
    collectFlags (s.active aaa) fl n = F := by
  apply BitVec.eq_of_getLsbD_eq
  intro b _
  rw [Bool.eq_iff_iff, getLsbD_collectFlags, h b]

theorem collected_zero (s : State) (aaa : KReg) (n : Nat) : Collected s aaa n (fun _ => 0) 0 := by
  intro b; simp

/-- A class that does not consult the masks records the flags and goes on. -/
theorem signal_unmaskable {op : Op} {loc : Loc} {f : Flags} {s : State} {rest : State → Out}
    (h : op.info.cls.consultsMasks = false) : signal op loc f s rest = rest (s.orFlags (effectiveFlags loc f)) := by
  simp [signal, State.unmasked, h]

/-- An unmasked flag without SAE raises #XM, or #UD with CR4.OSXMMEXCPT = 0. -/
theorem signal_raises {op : Op} {loc : Loc} {f : Flags} {s : State} {rest : State → Out}
    (h : op.info.cls.consultsMasks = true) (hl : loc.sae = false) (hf : f &&& ~~~s.masks ≠ 0) :
    signal op loc f s rest = raise (if s.cr4.getLsbD 10 then .xm else .ud) (s.orFlags f) := by
  have : s.unmasked op.info.cls f = true := by simpa [State.unmasked, h] using hf
  simp [signal, effectiveFlags, hl, this, State.osxmmexcpt]

/-! ## The start -/

theorem guarded_source {op : Op} {vl : VL} {raw : Raw} {s : State} {x : Zmm} {rest : Zmm → Out} (hr : Ready s op)
    (hs : s.source op vl raw = .ok x) : (guarded op s <| withSource op vl raw s rest) = rest x := by
  rw [guarded_ready hr, withSource, hs]

/-! ## A vector destination -/

theorem maskedWrite_maskedVec (s : State) (raw : Raw) (w n : Nat) (res : Nat → BitVec w) (h : w * n ≤ 512) :
    MaskedWrite s raw w n res (maskedVec w n (s.active raw.aaa) raw.z (s.vec raw.reg) res) :=
  ⟨fun j hj => lane_maskedVec _ _ _ _ _ _ j hj h, fun b hb => getLsbD_maskedVec_above _ _ _ _ _ _ h b hb⟩

theorem execVec_done {i : Instr} {s : State} {x : Zmm} {w n : Nat} {elem : Sources → Nat → Elem w} {F : Flags}
    (hx : Runs i s x) (he : exec i s = execVec i.parts.op i.parts.vl i.parts.raw w n elem s) (hw : w * n ≤ 512)
    (hF : Collected s i.parts.raw.aaa n (fun j => (elem (s.sources i.parts.raw x) j).2) F)
    (hq : i.parts.op.info.cls.consultsMasks = true → Quiet s i.parts.raw.rm.loc F) :
    VectorDone i s (effectiveFlags i.parts.raw.rm.loc F) w n fun j => (elem (s.sources i.parts.raw x) j).1 := by
  refine ⟨_, ?_, maskedWrite_maskedVec s i.parts.raw w n _ hw⟩
  rw [he, execVec, guarded_source hx.ready hx.source, collectFlags_eq hF]
  have hp : s.pcFits i.length = true := (fits_iff s i).1 hx.fits
  cases hc : i.parts.op.info.cls.consultsMasks with
  | true => rw [signal_quiet (hq hc)]; exact complete_fits hp
  | false => rw [signal_unmaskable hc]; exact complete_fits hp

@[simp] theorem effectiveFlags_zero (loc : Loc) : effectiveFlags loc 0#6 = 0#6 := by simp [effectiveFlags]

theorem quiet_zero (s : State) (loc : Loc) : Quiet s loc 0 := .inr (by simp)

theorem execVec_silent_done {i : Instr} {s : State} {x : Zmm} {w n : Nat} {elem : Sources → Nat → BitVec w}
    (hx : Runs i s x) (he : exec i s = execVec i.parts.op i.parts.vl i.parts.raw w n (silent elem) s)
    (hw : w * n ≤ 512) : VectorDone i s 0 w n (elem (s.sources i.parts.raw x)) := by
  have h := execVec_done (F := 0) hx he hw (collected_zero s _ n) fun _ => quiet_zero s _
  simpa [silent] using h

theorem execVec_raises {i : Instr} {s : State} {x : Zmm} {w n : Nat} {elem : Sources → Nat → Elem w} {F : Flags}
    (hx : Runs i s x) (he : exec i s = execVec i.parts.op i.parts.vl i.parts.raw w n elem s)
    (hF : Collected s i.parts.raw.aaa n (fun j => (elem (s.sources i.parts.raw x) j).2) F)
    (hc : i.parts.op.info.cls.consultsMasks = true) (hl : i.parts.raw.rm.loc.sae = false) (hf : F &&& ~~~s.masks ≠ 0) :
    exec i s = raise (if s.cr4.getLsbD 10 then .xm else .ud) (s.orFlags F) := by
  rw [he, execVec, guarded_source hx.ready hx.source, collectFlags_eq hF, signal_raises hc hl hf]

/-! ## The other destinations -/

theorem execScalar_done {i : Instr} {s : State} {x : Zmm} {w : Nat} {elem : Sources → Elem w} (hx : Runs i s x)
    (hv : i.parts.vl = .v128) (he : exec i s = execScalar i.parts.op i.parts.raw w elem s)
    (hq : Quiet s i.parts.raw.rm.loc (when (s.active i.parts.raw.aaa 0) (elem (s.sources i.parts.raw x)).2)) :
    exec i s = .next (((s.orFlags (effectiveFlags i.parts.raw.rm.loc
      (when (s.active i.parts.raw.aaa 0) (elem (s.sources i.parts.raw x)).2))).setVec i.parts.raw.reg
        (scalarResult w (s.active i.parts.raw.aaa 0) i.parts.raw.z (s.vec i.parts.raw.reg) (s.vec i.parts.raw.vvvv)
          (elem (s.sources i.parts.raw x)).1)).advance i.length) := by
  have hs := hx.source
  rw [hv] at hs
  rw [he, execScalar, guarded_source hx.ready hs, signal_quiet hq]
  exact complete_fits ((fits_iff s i).1 hx.fits)

theorem execMask_done {i : Instr} {s : State} {x : Zmm} {n : Nat} {bitAt : Sources → Nat → Bool} (hx : Runs i s x)
    (he : exec i s = execMask i.parts.op i.parts.vl i.parts.raw n bitAt s) (hn : n ≤ 64) :
    OpmaskDone i s (i.parts.raw.reg.setWidth 3) n (bitAt (s.sources i.parts.raw x)) := by
  refine ⟨_, ?_, fun j => getLsbD_maskBits n (s.active i.parts.raw.aaa) (bitAt (s.sources i.parts.raw x)) hn j⟩
  rw [he, execMask, guarded_source hx.ready hx.source]
  exact complete_fits ((fits_iff s i).1 hx.fits)

theorem statusWritten_statusBits (old : BitVec 32) (of sf zf af pf cf : Bool) :
    StatusWritten old ((old &&& ~~~statusMask) ||| statusBits of sf zf af pf cf) of sf zf af pf cf := by
  intro b
  by_cases hb : b < 32
  · have : ∀ of sf zf af pf cf : Bool, ∀ b : Fin 32,
        (~~~statusMask).getLsbD b = !(b.val == 0 || b.val == 2 || b.val == 4 || b.val == 6 || b.val == 7 || b.val == 11) ∧
        (statusBits of sf zf af pf cf).getLsbD b =
          if b.val = 0 then cf else if b.val = 2 then pf else if b.val = 4 then af else if b.val = 6 then zf
          else if b.val = 7 then sf else if b.val = 11 then of else false := by
      decide +kernel
    obtain ⟨h1, h2⟩ := this of sf zf af pf cf ⟨b, hb⟩
    clear this
    simp only at h1 h2
    rw [BitVec.getLsbD_or, BitVec.getLsbD_and, h1, h2]
    by_cases h : b = 0 ∨ b = 2 ∨ b = 4 ∨ b = 6 ∨ b = 7 ∨ b = 11
    · rcases h with rfl | rfl | rfl | rfl | rfl | rfl <;> simp
    · simp only [not_or] at h
      simp [h]
  · have hb : 32 ≤ b := by omega
    rw [BitVec.getLsbD_of_ge _ _ hb, BitVec.getLsbD_of_ge _ _ hb]
    split_ifs <;> first | omega | rfl

theorem execCompare_done {i : Instr} {s : State} {x : Zmm} {cmp : Sources → BitVec 32 × Flags} (hx : Runs i s x)
    (hv : i.parts.vl = .v128) (he : exec i s = execCompare i.parts.op i.parts.raw cmp s)
    (hq : i.parts.op.info.cls.consultsMasks = true → Quiet s i.parts.raw.rm.loc (cmp (s.sources i.parts.raw x)).2)
    {of sf zf af pf cf : Bool} (hb : (cmp (s.sources i.parts.raw x)).1 = statusBits of sf zf af pf cf) :
    StatusDone i s (effectiveFlags i.parts.raw.rm.loc (cmp (s.sources i.parts.raw x)).2) of sf zf af pf cf := by
  have hs := hx.source
  rw [hv] at hs
  refine ⟨_, ?_, statusWritten_statusBits s.eflags of sf zf af pf cf⟩
  rw [he, execCompare, guarded_source hx.ready hs]
  have hp : s.pcFits i.length = true := (fits_iff s i).1 hx.fits
  cases hc : i.parts.op.info.cls.consultsMasks with
  | true => rw [signal_quiet (hq hc), hb]; exact complete_fits hp
  | false => rw [signal_unmaskable hc, hb]; exact complete_fits hp

theorem execGeneral_done {i : Instr} {s : State} {x : Zmm} {conv : Sources → Elem 64} (hx : Runs i s x)
    (hv : i.parts.vl = .v128) (he : exec i s = execGeneral i.parts.op i.parts.raw conv s)
    (hq : Quiet s i.parts.raw.rm.loc (conv (s.sources i.parts.raw x)).2) :
    exec i s = .next (((s.orFlags (effectiveFlags i.parts.raw.rm.loc (conv (s.sources i.parts.raw x)).2)).setGeneral
      (i.parts.raw.reg.setWidth 4) (conv (s.sources i.parts.raw x)).1).advance i.length) := by
  have hs := hx.source
  rw [hv] at hs
  rw [he, execGeneral, guarded_source hx.ready hs, signal_quiet hq]
  exact complete_fits ((fits_iff s i).1 hx.fits)

theorem execLoad_done {i : Instr} {s : State} {x : Zmm} {w : Nat} (hx : Runs i s x) (hv : i.parts.vl = .v128)
    (he : exec i s = execLoad i.parts.op i.parts.raw w s) :
    exec i s = .next ((s.setVec i.parts.raw.reg ((lane w 0 x).setWidth 512)).advance i.length) := by
  have hs := hx.source
  rw [hv] at hs
  rw [he, execLoad, guarded_source hx.ready hs]
  exact complete_fits ((fits_iff s i).1 hx.fits)

theorem execStore_done {i : Instr} {s : State} {w : Nat} (hr : Ready s i.parts.op) (hf : Fits s i)
    (hs : s.storeFault i.parts.op i.parts.raw.rm = none) (he : exec i s = execStore i.parts.op i.parts.raw w s) :
    exec i s = .next ((s.stored i.parts.op i.parts.raw.rm w (s.vec i.parts.raw.reg)).advance i.length) := by
  have hp : s.pcFits i.length = true := (fits_iff s i).1 hf
  rw [he, execStore, guarded_ready hr, hs]
  refine complete_fits (Eq.trans ?_ hp)
  unfold State.stored
  split <;> simp [Instr.length]

end Sys2Proof.Machine
end

