-- ==== Sys2Proof/Tests/Slice0.lean ====
section
/-! SUPPORT. Tests: ill-formed terms that the checks refuse, every encoding as a word written out from spec/30_encoding.md
R91 to R96 and R110, one element of every instruction with the values of spec/95_test_vectors.md, and for every statement
with hypotheses a state and operands that meet them. -/

namespace Sys2Proof.Tests

-- Many short kernel evaluations: one after another, so that they do not each hold a thread.
set_option Elab.async false

open Sys2Proof.Machine

/-! ## Ill-formed terms -/

/-- Ten legacy bytes and six bytes make 16; nine make 15. -/
theorem test_wf_length :
    (Instr.vaddbf16 .v128 ⟨1, 2, ⟨List.replicate 10 (.seg .ds), .reg 3⟩, 0, false⟩).wf = false ∧
    (Instr.vaddbf16 .v128 ⟨1, 2, ⟨List.replicate 9 (.seg .ds), .reg 3⟩, 0, false⟩).wf = true := by decide

/-- Zeroing without a write mask (R101). -/
theorem test_wf_zeroing :
    (Instr.vaddbf16 .v128 ⟨1, 2, ⟨[], .reg 3⟩, 0, true⟩).wf = false ∧
    (Instr.vaddbf16 .v128 ⟨1, 2, ⟨[], .reg 3⟩, 1, true⟩).wf = true := by decide

/-- Embedded broadcast, rounding and SAE where R110 does not print them, and on packed forms below 512 bits (R102). -/
theorem test_wf_evex_b :
    (Instr.vcvthf82ph .v128 ⟨1, ⟨[], .bcst (.base 0 .none)⟩, 0, false⟩).wf = false ∧
    (Instr.vaddbf16 .v512 ⟨1, 2, ⟨[], .regEr 3 0⟩, 0, false⟩).wf = false ∧
    (Instr.vaddbf16 .v512 ⟨1, 2, ⟨[], .regSae 3⟩, 0, false⟩).wf = false ∧
    (Instr.vcvtph2ibs .v256 ⟨1, ⟨[], .regEr 3 1⟩, 0, false⟩).wf = false ∧
    (Instr.vcvttph2ibs .v256 ⟨1, ⟨[], .regSae 3⟩, 0, false⟩).wf = false ∧
    (Instr.vcvttph2ibs .v512 ⟨1, ⟨[], .regSae 3⟩, 0, false⟩).wf = true ∧
    (Instr.vcomxss ⟨1, ⟨[], .regSae 3⟩⟩).wf = true := by decide

/-- Base numbers that ModRM and SIB use for something else (R95). -/
theorem test_wf_address :
    (Instr.vmovdLoad ⟨1, ⟨[], .mem (.base 4 (.d8 1))⟩⟩).wf = false ∧
    (Instr.vmovdLoad ⟨1, ⟨[], .mem (.base 13 .none)⟩⟩).wf = false ∧
    (Instr.vmovdLoad ⟨1, ⟨[], .mem (.sib 0 1 5 .none)⟩⟩).wf = false ∧
    (Instr.vmovdLoad ⟨1, ⟨[], .mem (.sib 0 1 12 .none)⟩⟩).wf = true := by decide

/-! ## Encodings, bit by bit from the spec -/

/-- Every list of bytes decodes to the instruction beside it, and all bytes are read. -/
def reads (rows : List (List Byte × Instr)) : Bool := rows.all fun p => decode .mode64 p.1 == .instr p.2 []

theorem test_decode_bf16_arithmetic_1 : reads [
    ([0x62, 0xF5, 0x65, 0x08, 0x58, 0xCA], .vaddbf16 .v128 ⟨1, 3, ⟨[], .reg 2⟩, 0, false⟩),
    ([0x62, 0x25, 0x05, 0x91, 0x5E, 0xB4, 0xB0, 0x00, 0x01, 0x00, 0x00],
      .vdivbf16 .v128 ⟨30, 31, ⟨[], .bcst (.sib 2 14 0 (.d32 0x100))⟩, 1, true⟩),
    ([0x62, 0xF6, 0x0C, 0x28, 0x98, 0xD2], .vfmadd132bf16 .v256 ⟨2, 14, ⟨[], .reg 2⟩, 0, false⟩),
    ([0x62, 0x26, 0x64, 0x4A, 0xA8, 0xD4], .vfmadd213bf16 .v512 ⟨26, 3, ⟨[], .reg 20⟩, 2, false⟩),
    ([0x62, 0xD6, 0x64, 0x87, 0xB8, 0x49, 0x02], .vfmadd231bf16 .v128 ⟨1, 19, ⟨[], .mem (.base 9 (.d8 0x02))⟩, 7, true⟩),
    ([0x62, 0xA6, 0x3C, 0x39, 0x9A, 0x8C, 0xB0, 0x00, 0x01, 0x00, 0x00],
      .vfmsub132bf16 .v256 ⟨17, 8, ⟨[], .bcst (.sib 2 14 0 (.d32 0x100))⟩, 1, false⟩),
    ([0x62, 0x76, 0x04, 0x40, 0xAA, 0xCA], .vfmsub213bf16 .v512 ⟨9, 31, ⟨[], .reg 2⟩, 0, false⟩),
    ([0x62, 0x26, 0x0C, 0x8A, 0xBA, 0xF4], .vfmsub231bf16 .v128 ⟨30, 14, ⟨[], .reg 20⟩, 2, true⟩),
    ([0x62, 0xD6, 0x64, 0x2F, 0x9C, 0x51, 0x02],
      .vfnmadd132bf16 .v256 ⟨2, 3, ⟨[], .mem (.base 9 (.d8 0x02))⟩, 7, false⟩),
    ([0x62, 0x26, 0x64, 0x51, 0xAC, 0x94, 0xB0, 0x00, 0x01, 0x00, 0x00],
      .vfnmadd213bf16 .v512 ⟨26, 19, ⟨[], .bcst (.sib 2 14 0 (.d32 0x100))⟩, 1, false⟩)] = true := by
  decide +kernel

theorem test_decode_bf16_arithmetic_2 : reads [
    ([0x62, 0xF6, 0x3C, 0x08, 0xBC, 0xCA], .vfnmadd231bf16 .v128 ⟨1, 8, ⟨[], .reg 2⟩, 0, false⟩),
    ([0x62, 0xA6, 0x04, 0x22, 0x9E, 0xCC], .vfnmsub132bf16 .v256 ⟨17, 31, ⟨[], .reg 20⟩, 2, false⟩),
    ([0x62, 0x56, 0x0C, 0x4F, 0xAE, 0x49, 0x02],
      .vfnmsub213bf16 .v512 ⟨9, 14, ⟨[], .mem (.base 9 (.d8 0x02))⟩, 7, false⟩),
    ([0x62, 0x26, 0x64, 0x99, 0xBE, 0xB4, 0xB0, 0x00, 0x01, 0x00, 0x00],
      .vfnmsub231bf16 .v128 ⟨30, 3, ⟨[], .bcst (.sib 2 14 0 (.d32 0x100))⟩, 1, true⟩),
    ([0x62, 0xA5, 0x0D, 0x39, 0x5F, 0x8C, 0xB0, 0x00, 0x01, 0x00, 0x00],
      .vmaxbf16 .v256 ⟨17, 14, ⟨[], .bcst (.sib 2 14 0 (.d32 0x100))⟩, 1, false⟩),
    ([0x62, 0x75, 0x65, 0x48, 0x5D, 0xCA], .vminbf16 .v512 ⟨9, 3, ⟨[], .reg 2⟩, 0, false⟩),
    ([0x62, 0x25, 0x65, 0x82, 0x59, 0xF4], .vmulbf16 .v128 ⟨30, 19, ⟨[], .reg 20⟩, 2, true⟩),
    ([0x62, 0x56, 0x64, 0x47, 0x2C, 0x49, 0x02], .vscalefbf16 .v512 ⟨9, 19, ⟨[], .mem (.base 9 (.d8 0x02))⟩, 7, false⟩),
    ([0x62, 0x25, 0x7D, 0x99, 0x51, 0xB4, 0xB0, 0x00, 0x01, 0x00, 0x00],
      .vsqrtbf16 .v128 ⟨30, ⟨[], .bcst (.sib 2 14 0 (.d32 0x100))⟩, 1, true⟩),
    ([0x62, 0xF5, 0x05, 0x20, 0x5C, 0xD2], .vsubbf16 .v256 ⟨2, 31, ⟨[], .reg 2⟩, 0, false⟩)] = true := by
  decide +kernel

theorem test_decode_bf16_misc : reads [
    ([0x62, 0xB3, 0x67, 0x22, 0xC2, 0xCC, 0x11], .vcmpbf16 .v256 ⟨1, 19, ⟨[], .reg 20⟩, 2⟩ 0x11),
    ([0x62, 0x55, 0x7D, 0x08, 0x2F, 0x49, 0x02], .vcomisbf16 ⟨9, ⟨[], .mem (.base 9 (.d8 0x02))⟩⟩),
    ([0x62, 0xF3, 0x7F, 0x28, 0x66, 0xC2, 0x20], .vfpclassbf16 .v256 ⟨0, ⟨[], .reg 2⟩, 0⟩ 0x20),
    ([0x62, 0x26, 0x7C, 0x4A, 0x42, 0xD4], .vgetexpbf16 .v512 ⟨26, ⟨[], .reg 20⟩, 2, false⟩),
    ([0x62, 0xD3, 0x7F, 0x8F, 0x26, 0x49, 0x02, 0x22],
      .vgetmantbf16 .v128 ⟨1, ⟨[], .mem (.base 9 (.d8 0x02))⟩, 7, true⟩ 0x22),
    ([0x62, 0xD6, 0x7C, 0x2F, 0x4C, 0x51, 0x02], .vrcpbf16 .v256 ⟨2, ⟨[], .mem (.base 9 (.d8 0x02))⟩, 7, false⟩),
    ([0x62, 0x23, 0x7F, 0x59, 0x56, 0x94, 0xB0, 0x00, 0x01, 0x00, 0x00, 0x27],
      .vreducebf16 .v512 ⟨26, ⟨[], .bcst (.sib 2 14 0 (.d32 0x100))⟩, 1, false⟩ 0x27),
    ([0x62, 0xF3, 0x7F, 0x08, 0x08, 0xCA, 0x28], .vrndscalebf16 .v128 ⟨1, ⟨[], .reg 2⟩, 0, false⟩ 0x28),
    ([0x62, 0xA6, 0x7C, 0x2A, 0x4E, 0xCC], .vrsqrtbf16 .v256 ⟨17, ⟨[], .reg 20⟩, 2, false⟩)] = true := by
  decide +kernel

theorem test_decode_scalar_compares : reads [
    ([0x62, 0x21, 0xFF, 0x18, 0x2F, 0xD4], .vcomxsd ⟨26, ⟨[], .regSae 20⟩⟩),
    ([0x62, 0xD5, 0x7E, 0x08, 0x2F, 0x49, 0x02], .vcomxsh ⟨1, ⟨[], .mem (.base 9 (.d8 0x02))⟩⟩),
    ([0x62, 0xC1, 0x7E, 0x08, 0x2F, 0x49, 0x02], .vcomxss ⟨17, ⟨[], .mem (.base 9 (.d8 0x02))⟩⟩),
    ([0x62, 0x71, 0xFF, 0x08, 0x2E, 0xCA], .vucomxsd ⟨9, ⟨[], .reg 2⟩⟩),
    ([0x62, 0x25, 0x7E, 0x18, 0x2E, 0xF4], .vucomxsh ⟨30, ⟨[], .regSae 20⟩⟩),
    ([0x62, 0xD1, 0x7E, 0x08, 0x2E, 0x51, 0x02], .vucomxss ⟨2, ⟨[], .mem (.base 9 (.d8 0x02))⟩⟩)] = true := by
  decide +kernel

theorem test_decode_fp8_converts_1 : reads [
    ([0x62, 0x22, 0x67, 0x59, 0x74, 0x94, 0xB0, 0x00, 0x01, 0x00, 0x00],
      .vcvt2ph2bf8 .v512 ⟨26, 3, ⟨[], .bcst (.sib 2 14 0 (.d32 0x100))⟩, 1, false⟩),
    ([0x62, 0xF5, 0x67, 0x00, 0x74, 0xCA], .vcvt2ph2bf8s .v128 ⟨1, 19, ⟨[], .reg 2⟩, 0, false⟩),
    ([0x62, 0xA5, 0x3F, 0x2A, 0x18, 0xCC], .vcvt2ph2hf8 .v256 ⟨17, 8, ⟨[], .reg 20⟩, 2, false⟩),
    ([0x62, 0x55, 0x07, 0x47, 0x1B, 0x49, 0x02], .vcvt2ph2hf8s .v512 ⟨9, 31, ⟨[], .mem (.base 9 (.d8 0x02))⟩, 7, false⟩),
    ([0x62, 0x22, 0x7E, 0x99, 0x74, 0xB4, 0xB0, 0x00, 0x01, 0x00, 0x00],
      .vcvtph2bf8 .v128 ⟨30, ⟨[], .bcst (.sib 2 14 0 (.d32 0x100))⟩, 1, true⟩),
    ([0x62, 0xF5, 0x7E, 0x28, 0x74, 0xD2], .vcvtph2bf8s .v256 ⟨2, ⟨[], .reg 2⟩, 0, false⟩),
    ([0x62, 0x25, 0x7E, 0x4A, 0x18, 0xD4], .vcvtph2hf8 .v512 ⟨26, ⟨[], .reg 20⟩, 2, false⟩),
    ([0x62, 0xD5, 0x7E, 0x8F, 0x1B, 0x49, 0x02], .vcvtph2hf8s .v128 ⟨1, ⟨[], .mem (.base 9 (.d8 0x02))⟩, 7, true⟩),
    ([0x62, 0xA2, 0x05, 0x31, 0x67, 0x8C, 0xB0, 0x00, 0x01, 0x00, 0x00],
      .vcvt2ps2phx .v256 ⟨17, 31, ⟨[], .bcst (.sib 2 14 0 (.d32 0x100))⟩, 1, false⟩),
    ([0x62, 0x72, 0x0C, 0x48, 0x74, 0xCA], .vcvtbiasph2bf8 .v512 ⟨9, 14, ⟨[], .reg 2⟩, 0, false⟩)] = true := by
  decide +kernel

theorem test_decode_fp8_converts_2 : reads [
    ([0x62, 0x25, 0x64, 0x8A, 0x74, 0xF4], .vcvtbiasph2bf8s .v128 ⟨30, 3, ⟨[], .reg 20⟩, 2, true⟩),
    ([0x62, 0xD5, 0x64, 0x27, 0x18, 0x51, 0x02],
      .vcvtbiasph2hf8 .v256 ⟨2, 19, ⟨[], .mem (.base 9 (.d8 0x02))⟩, 7, false⟩),
    ([0x62, 0x25, 0x3C, 0x59, 0x1B, 0x94, 0xB0, 0x00, 0x01, 0x00, 0x00],
      .vcvtbiasph2hf8s .v512 ⟨26, 8, ⟨[], .bcst (.sib 2 14 0 (.d32 0x100))⟩, 1, false⟩),
    ([0x62, 0xF5, 0x7F, 0x08, 0x1E, 0xCA], .vcvthf82ph .v128 ⟨1, ⟨[], .reg 2⟩, 0, false⟩)] = true := by
  decide +kernel

theorem test_decode_dot_products_1 : reads [
    ([0x62, 0xA2, 0x0C, 0x2A, 0x52, 0xCC], .vdphphs .v256 ⟨17, 14, ⟨[], .reg 20⟩, 2, false⟩),
    ([0x62, 0x53, 0x66, 0x4F, 0x42, 0x49, 0x02, 0x42],
      .vmpsadbw .v512 ⟨9, 3, ⟨[], .mem (.base 9 (.d8 0x02))⟩, 7, false⟩ 0x42),
    ([0x62, 0x22, 0x67, 0x91, 0x50, 0xB4, 0xB0, 0x00, 0x01, 0x00, 0x00],
      .vpdpbssd .v128 ⟨30, 19, ⟨[], .bcst (.sib 2 14 0 (.d32 0x100))⟩, 1, true⟩),
    ([0x62, 0xF2, 0x3F, 0x28, 0x51, 0xD2], .vpdpbssds .v256 ⟨2, 8, ⟨[], .reg 2⟩, 0, false⟩),
    ([0x62, 0x22, 0x06, 0x42, 0x50, 0xD4], .vpdpbsud .v512 ⟨26, 31, ⟨[], .reg 20⟩, 2, false⟩),
    ([0x62, 0xD2, 0x0E, 0x8F, 0x51, 0x49, 0x02], .vpdpbsuds .v128 ⟨1, 14, ⟨[], .mem (.base 9 (.d8 0x02))⟩, 7, true⟩),
    ([0x62, 0xA2, 0x64, 0x39, 0x50, 0x8C, 0xB0, 0x00, 0x01, 0x00, 0x00],
      .vpdpbuud .v256 ⟨17, 3, ⟨[], .bcst (.sib 2 14 0 (.d32 0x100))⟩, 1, false⟩),
    ([0x62, 0x72, 0x64, 0x40, 0x51, 0xCA], .vpdpbuuds .v512 ⟨9, 19, ⟨[], .reg 2⟩, 0, false⟩),
    ([0x62, 0x22, 0x3E, 0x8A, 0xD2, 0xF4], .vpdpwsud .v128 ⟨30, 8, ⟨[], .reg 20⟩, 2, true⟩),
    ([0x62, 0xD2, 0x06, 0x27, 0xD3, 0x51, 0x02], .vpdpwsuds .v256 ⟨2, 31, ⟨[], .mem (.base 9 (.d8 0x02))⟩, 7,
      false⟩)] = true := by
  decide +kernel

theorem test_decode_dot_products_2 : reads [
    ([0x62, 0x22, 0x0D, 0x59, 0xD2, 0x94, 0xB0, 0x00, 0x01, 0x00, 0x00],
      .vpdpwusd .v512 ⟨26, 14, ⟨[], .bcst (.sib 2 14 0 (.d32 0x100))⟩, 1, false⟩),
    ([0x62, 0xF2, 0x65, 0x08, 0xD3, 0xCA], .vpdpwusds .v128 ⟨1, 3, ⟨[], .reg 2⟩, 0, false⟩),
    ([0x62, 0xA2, 0x64, 0x22, 0xD2, 0xCC], .vpdpwuud .v256 ⟨17, 19, ⟨[], .reg 20⟩, 2, false⟩),
    ([0x62, 0x52, 0x3C, 0x4F, 0xD3, 0x49, 0x02], .vpdpwuuds .v512 ⟨9, 8, ⟨[], .mem (.base 9 (.d8 0x02))⟩, 7,
      false⟩)] = true := by
  decide +kernel

theorem test_decode_minmax : reads [
    ([0x62, 0x23, 0x07, 0x91, 0x52, 0xB4, 0xB0, 0x00, 0x01, 0x00, 0x00, 0x4F],
      .vminmaxbf16 .v128 ⟨30, 31, ⟨[], .bcst (.sib 2 14 0 (.d32 0x100))⟩, 1, true⟩ 0x4f),
    ([0x62, 0xF3, 0x8D, 0x28, 0x52, 0xD2, 0x50], .vminmaxpd .v256 ⟨2, 14, ⟨[], .reg 2⟩, 0, false⟩ 0x50),
    ([0x62, 0x23, 0x64, 0x5A, 0x52, 0xD4, 0x51], .vminmaxph .v512 ⟨26, 3, ⟨[], .regSae 20⟩, 2, false⟩ 0x51),
    ([0x62, 0xD3, 0x65, 0x87, 0x52, 0x49, 0x02, 0x52],
      .vminmaxps .v128 ⟨1, 19, ⟨[], .mem (.base 9 (.d8 0x02))⟩, 7, true⟩ 0x52),
    ([0x62, 0xC3, 0xBD, 0x09, 0x53, 0x49, 0x02, 0x53],
      .vminmaxsd ⟨17, 8, ⟨[], .mem (.base 9 (.d8 0x02))⟩, 1, false⟩ 0x53),
    ([0x62, 0x73, 0x04, 0x00, 0x53, 0xCA, 0x54], .vminmaxsh ⟨9, 31, ⟨[], .reg 2⟩, 0, false⟩ 0x54),
    ([0x62, 0x23, 0x0D, 0x9A, 0x53, 0xF4, 0x55], .vminmaxss ⟨30, 14, ⟨[], .regSae 20⟩, 2, true⟩ 0x55)] = true := by
  decide +kernel

theorem test_decode_saturating_converts_1 : reads [
    ([0x62, 0xD5, 0x7F, 0x2F, 0x69, 0x51, 0x02], .vcvtbf162ibs .v256 ⟨2, ⟨[], .mem (.base 9 (.d8 0x02))⟩, 7, false⟩),
    ([0x62, 0x25, 0x7F, 0x59, 0x6B, 0x94, 0xB0, 0x00, 0x01, 0x00, 0x00],
      .vcvtbf162iubs .v512 ⟨26, ⟨[], .bcst (.sib 2 14 0 (.d32 0x100))⟩, 1, false⟩),
    ([0x62, 0xF5, 0x7F, 0x08, 0x68, 0xCA], .vcvttbf162ibs .v128 ⟨1, ⟨[], .reg 2⟩, 0, false⟩),
    ([0x62, 0xA5, 0x7F, 0x2A, 0x6A, 0xCC], .vcvttbf162iubs .v256 ⟨17, ⟨[], .reg 20⟩, 2, false⟩),
    ([0x62, 0x55, 0xFC, 0x4F, 0x6D, 0x49, 0x02], .vcvttpd2dqs .v512 ⟨9, ⟨[], .mem (.base 9 (.d8 0x02))⟩, 7, false⟩),
    ([0x62, 0x25, 0xFD, 0x99, 0x6D, 0xB4, 0xB0, 0x00, 0x01, 0x00, 0x00],
      .vcvttpd2qqs .v128 ⟨30, ⟨[], .bcst (.sib 2 14 0 (.d32 0x100))⟩, 1, true⟩),
    ([0x62, 0xF5, 0xFC, 0x28, 0x6C, 0xD2], .vcvttpd2udqs .v256 ⟨2, ⟨[], .reg 2⟩, 0, false⟩),
    ([0x62, 0x25, 0xFD, 0x5A, 0x6C, 0xD4], .vcvttpd2uqqs .v512 ⟨26, ⟨[], .regSae 20⟩, 2, false⟩),
    ([0x62, 0xD5, 0x7C, 0x8F, 0x69, 0x49, 0x02], .vcvtph2ibs .v128 ⟨1, ⟨[], .mem (.base 9 (.d8 0x02))⟩, 7, true⟩),
    ([0x62, 0xA5, 0x7C, 0x39, 0x6B, 0x8C, 0xB0, 0x00, 0x01, 0x00, 0x00],
      .vcvtph2iubs .v256 ⟨17, ⟨[], .bcst (.sib 2 14 0 (.d32 0x100))⟩, 1, false⟩)] = true := by
  decide +kernel

theorem test_decode_saturating_converts_2 : reads [
    ([0x62, 0x75, 0x7C, 0x48, 0x68, 0xCA], .vcvttph2ibs .v512 ⟨9, ⟨[], .reg 2⟩, 0, false⟩),
    ([0x62, 0x25, 0x7C, 0x8A, 0x6A, 0xF4], .vcvttph2iubs .v128 ⟨30, ⟨[], .reg 20⟩, 2, true⟩),
    ([0x62, 0xD5, 0x7C, 0x2F, 0x6D, 0x51, 0x02], .vcvttps2dqs .v256 ⟨2, ⟨[], .mem (.base 9 (.d8 0x02))⟩, 7, false⟩),
    ([0x62, 0x25, 0x7D, 0x59, 0x69, 0x94, 0xB0, 0x00, 0x01, 0x00, 0x00],
      .vcvtps2ibs .v512 ⟨26, ⟨[], .bcst (.sib 2 14 0 (.d32 0x100))⟩, 1, false⟩),
    ([0x62, 0xF5, 0x7D, 0x08, 0x6B, 0xCA], .vcvtps2iubs .v128 ⟨1, ⟨[], .reg 2⟩, 0, false⟩),
    ([0x62, 0xA5, 0x7D, 0x2A, 0x68, 0xCC], .vcvttps2ibs .v256 ⟨17, ⟨[], .reg 20⟩, 2, false⟩),
    ([0x62, 0x55, 0x7D, 0x4F, 0x6A, 0x49, 0x02], .vcvttps2iubs .v512 ⟨9, ⟨[], .mem (.base 9 (.d8 0x02))⟩, 7, false⟩),
    ([0x62, 0x25, 0x7D, 0x99, 0x6D, 0xB4, 0xB0, 0x00, 0x01, 0x00, 0x00],
      .vcvttps2qqs .v128 ⟨30, ⟨[], .bcst (.sib 2 14 0 (.d32 0x100))⟩, 1, true⟩),
    ([0x62, 0xF5, 0x7C, 0x28, 0x6C, 0xD2], .vcvttps2udqs .v256 ⟨2, ⟨[], .reg 2⟩, 0, false⟩),
    ([0x62, 0x25, 0x7D, 0x5A, 0x6C, 0xD4], .vcvttps2uqqs .v512 ⟨26, ⟨[], .regSae 20⟩, 2, false⟩)] = true := by
  decide +kernel

theorem test_decode_saturating_converts_3 : reads [
    ([0x62, 0x55, 0x7F, 0x08, 0x6D, 0x79, 0x02], .vcvttsd2sisR32 ⟨15, ⟨[], .mem (.base 9 (.d8 0x02))⟩⟩),
    ([0x62, 0xD5, 0xFF, 0x08, 0x6D, 0x59, 0x02], .vcvttsd2sisR64 ⟨3, ⟨[], .mem (.base 9 (.d8 0x02))⟩⟩),
    ([0x62, 0xF5, 0x7F, 0x08, 0x6C, 0xC2], .vcvttsd2usisR32 ⟨0, ⟨[], .reg 2⟩⟩),
    ([0x62, 0x35, 0xFF, 0x18, 0x6C, 0xCC], .vcvttsd2usisR64 ⟨9, ⟨[], .regSae 20⟩⟩),
    ([0x62, 0x55, 0x7E, 0x08, 0x6D, 0x79, 0x02], .vcvttss2sisR32 ⟨15, ⟨[], .mem (.base 9 (.d8 0x02))⟩⟩),
    ([0x62, 0xD5, 0xFE, 0x08, 0x6D, 0x59, 0x02], .vcvttss2sisR64 ⟨3, ⟨[], .mem (.base 9 (.d8 0x02))⟩⟩),
    ([0x62, 0xF5, 0x7E, 0x08, 0x6C, 0xC2], .vcvttss2usisR32 ⟨0, ⟨[], .reg 2⟩⟩),
    ([0x62, 0x35, 0xFE, 0x18, 0x6C, 0xCC], .vcvttss2usisR64 ⟨9, ⟨[], .regSae 20⟩⟩)] = true := by
  decide +kernel

theorem test_decode_partial_copies : reads [
    ([0x62, 0x51, 0x7E, 0x08, 0x7E, 0x49, 0x02], .vmovdLoad ⟨9, ⟨[], .mem (.base 9 (.d8 0x02))⟩⟩),
    ([0x62, 0x41, 0x7D, 0x08, 0xD6, 0x71, 0x02], .vmovdStore ⟨30, ⟨[], .mem (.base 9 (.d8 0x02))⟩⟩),
    ([0x62, 0xF5, 0x7E, 0x08, 0x6E, 0xD2], .vmovwLoad ⟨2, ⟨[], .reg 2⟩⟩),
    ([0x62, 0x25, 0x7E, 0x08, 0x7E, 0xD4], .vmovwStore ⟨26, ⟨[], .reg 20⟩⟩)] = true := by
  decide +kernel

/-- spec/95_test_vectors.md B1.1 and B1.2: `L'L` is free under `{sae}`, and gives the rounding under `{er}`. -/
theorem test_decode_examples : reads [
    ([0x62, 0x56, 0x04, 0xD7, 0xB8, 0x01], .vfmadd231bf16 .v512 ⟨8, 31, ⟨[], .bcst (.base 9 .none)⟩, 7, true⟩),
    ([0x62, 0xF3, 0x6D, 0x18, 0x52, 0xCB, 0x05], .vminmaxps .v512 ⟨1, 2, ⟨[], .regSae 3⟩, 0, false⟩ 5),
    ([0x62, 0xF5, 0x7C, 0x38, 0x69, 0xCA], .vcvtph2ibs .v512 ⟨1, ⟨[], .regEr 2 1⟩, 0, false⟩),
    ([0x62, 0xF5, 0xFF, 0x08, 0x6D, 0x43, 0x02], .vcvttsd2sisR64 ⟨0, ⟨[], .mem (.base 3 (.d8 2))⟩⟩)] = true := by
  decide +kernel

/-- spec/95_test_vectors.md B1.3: encodings that raise #UD. -/
theorem test_decode_undefined : ([
    [0x62, 0xF5, 0x66, 0x08, 0x6E, 0xCA], [0x62, 0xF5, 0x75, 0x18, 0x58, 0xDA], [0x62, 0xF5, 0x75, 0x68, 0x58, 0xDA],
    [0x62, 0xF5, 0x7E, 0x28, 0x6E, 0xCA], [0x62, 0xF5, 0x75, 0x88, 0x58, 0xDA], [0x62, 0xF1, 0x7E, 0x09, 0x2F, 0xCA],
    [0x62, 0xF1, 0x7E, 0x18, 0x2F, 0x08], [0xF0, 0x62, 0xF5, 0x75, 0x08, 0x58, 0xDA],
    [0x66, 0x62, 0xF5, 0x75, 0x08, 0x58,
      0xDA]] : List (List Byte)).all (fun bs => decode .mode64 bs == .invalid) = true := by
  decide +kernel

/-- Outside 64-bit mode W of the scalar converts is ignored (R99), and register numbers have three bits (R96). -/
theorem test_decode_protected :
    decode .protectedMode [0x62, 0xF5, 0xFE, 0x08, 0x6C, 0xD1] = .instr (.vcvttss2usisR32 ⟨2, ⟨[], .reg 1⟩⟩) [] := by
  decide +kernel

/-- 67H before a memory form: #UD in real and virtual-8086 mode whatever follows (R108 a); rejected in a 32-bit mode (T17),
but for a LOCK byte (R74) and a write mask on a form without one (R108 h), which are #UD. -/
theorem test_decode_addr32_outside_64 :
    decode .real [0x67, 0x62, 0xF1, 0x7E, 0x08, 0x7E, 0x08] = .invalid ∧
    decode .virtual8086 [0x67, 0x62, 0xF1, 0x7E, 0x08, 0x7E, 0x08] = .invalid ∧
    decode .real [0x62, 0xF1, 0x7E, 0x08, 0x7E, 0xC8] = .invalid ∧
    decode .protectedMode [0x67, 0x62, 0xF1, 0x7E, 0x08, 0x7E, 0x08] = .rejected .address16 ∧
    decode .compatibility [0xF0, 0x67, 0x62, 0xF1, 0x7E, 0x08, 0x7E, 0x08] = .invalid ∧
    decode .protectedMode [0x67, 0x62, 0xF1, 0x7E, 0x09, 0x7E, 0x08] = .invalid ∧
    decode .real [0x62, 0xB1, 0x7E, 0x08, 0x7E, 0x08] = .rejected .foreign := by
  decide +kernel


/-! ## One step of every instruction, with the values of spec/95_test_vectors.md -/

/-- The machine of spec/70_reset_and_hazards.md R472 with three vector registers and MXCSR set. -/
def st (mxcsr : BitVec 32) (r1 r2 r3 : Zmm) : State :=
  (((({ State.reset.enabled with mxcsr := mxcsr }).setVec 1 r1).setVec 2 r2).setVec 3 r3).setOpmask 1 5

/-- What a test reads from an outcome. -/
def ofNext {α : Type} (f : State → α) (o : Out) : Option α :=
  match o with
  | .next t => some (f t)
  | .fault _ | .refused _ => none

/-- Rows (instruction, xmm1, xmm2, xmm3, w, result, flags): the low `w` bits of xmm1 after and the flags recorded. -/
def gives (rows : List (Instr × Zmm × Zmm × Zmm × Nat × Nat × Nat)) : Bool :=
  rows.all fun (i, r1, r2, r3, w, r, f) =>
    ofNext (fun t => ((t.vec 1).toNat % 2 ^ w, t.mxcsr.toNat, t.pc)) (exec i (st 0x1F80 r1 r2 r3)) ==
      some (r, 0x1F80 + f, BitVec.ofNat 64 i.length)

theorem test_result_bf16_arithmetic_1 : gives [
    (.vaddbf16 .v128 ⟨1, 2, ⟨[], .reg 3⟩, 0, false⟩, 0, 0x3F81, 0x3B80, 16, 0x3F82, 0),
    (.vsubbf16 .v128 ⟨1, 2, ⟨[], .reg 3⟩, 0, false⟩, 0, 0x3F80, 0x3C00, 16, 0x3F7E, 0),
    (.vmulbf16 .v128 ⟨1, 2, ⟨[], .reg 3⟩, 0, false⟩, 0, 0x7F7F, 0x7700, 16, 0x7F80, 0),
    (.vdivbf16 .v128 ⟨1, 2, ⟨[], .reg 3⟩, 0, false⟩, 0, 0x3F81, 0x3B80, 16, 0x4381, 0),
    (.vmaxbf16 .v128 ⟨1, 2, ⟨[], .reg 3⟩, 0, false⟩, 0, 0x8001, 0x3F80, 16, 0x3F80, 0),
    (.vminbf16 .v128 ⟨1, 2, ⟨[], .reg 3⟩, 0, false⟩, 0, 0x8001, 0x3F80, 16, 0x8000, 0),
    (.vscalefbf16 .v128 ⟨1, 2, ⟨[], .reg 3⟩, 0, false⟩, 0, 0x3F80, 0xC060, 16, 0x3D80, 0)] = true := by
  decide +kernel

theorem test_result_bf16_arithmetic_2 : gives [
    (.vsqrtbf16 .v128 ⟨1, ⟨[], .reg 3⟩, 0, false⟩, 0, 0, 0x4040, 16, 0x3FDE, 0)] = true := by
  decide +kernel

theorem test_result_bf16_fma_1 : gives [
    (.vfmadd132bf16 .v128 ⟨1, 2, ⟨[], .reg 3⟩, 0, false⟩, 0x4000, 0x4040, 0x4080, 16, 0x4130, 0),
    (.vfmadd213bf16 .v128 ⟨1, 2, ⟨[], .reg 3⟩, 0, false⟩, 0x4000, 0x4040, 0x4080, 16, 0x4120, 0),
    (.vfmadd231bf16 .v128 ⟨1, 2, ⟨[], .reg 3⟩, 0, false⟩, 0x4000, 0x4040, 0x4080, 16, 0x4160, 0),
    (.vfmsub132bf16 .v128 ⟨1, 2, ⟨[], .reg 3⟩, 0, false⟩, 0x4000, 0x4040, 0x4080, 16, 0x40A0, 0),
    (.vfmsub213bf16 .v128 ⟨1, 2, ⟨[], .reg 3⟩, 0, false⟩, 0x4000, 0x4040, 0x4080, 16, 0x4000, 0),
    (.vfmsub231bf16 .v128 ⟨1, 2, ⟨[], .reg 3⟩, 0, false⟩, 0x4000, 0x4040, 0x4080, 16, 0x4120, 0),
    (.vfnmadd132bf16 .v128 ⟨1, 2, ⟨[], .reg 3⟩, 0, false⟩, 0x4000, 0x4040, 0x4080, 16, 0xC0A0, 0)] = true := by
  decide +kernel

theorem test_result_bf16_fma_2 : gives [
    (.vfnmadd213bf16 .v128 ⟨1, 2, ⟨[], .reg 3⟩, 0, false⟩, 0x4000, 0x4040, 0x4080, 16, 0xC000, 0),
    (.vfnmadd231bf16 .v128 ⟨1, 2, ⟨[], .reg 3⟩, 0, false⟩, 0x4000, 0x4040, 0x4080, 16, 0xC120, 0),
    (.vfnmsub132bf16 .v128 ⟨1, 2, ⟨[], .reg 3⟩, 0, false⟩, 0x4000, 0x4040, 0x4080, 16, 0xC130, 0),
    (.vfnmsub213bf16 .v128 ⟨1, 2, ⟨[], .reg 3⟩, 0, false⟩, 0x4000, 0x4040, 0x4080, 16, 0xC120, 0),
    (.vfnmsub231bf16 .v128 ⟨1, 2, ⟨[], .reg 3⟩, 0, false⟩, 0x4000, 0x4040, 0x4080, 16, 0xC160, 0)] = true := by
  decide +kernel

theorem test_result_bf16_misc : gives [
    (.vgetexpbf16 .v128 ⟨1, ⟨[], .reg 3⟩, 0, false⟩, 0, 0, 0x0080, 16, 0xC2FC, 0),
    (.vgetmantbf16 .v128 ⟨1, ⟨[], .reg 3⟩, 0, false⟩ 0x01, 0, 0, 0xC040, 16, 0xBF40, 0),
    (.vreducebf16 .v128 ⟨1, ⟨[], .reg 3⟩, 0, false⟩ 0x00, 0, 0, 0x3F7F, 16, 0xBB80, 0),
    (.vrndscalebf16 .v128 ⟨1, ⟨[], .reg 3⟩, 0, false⟩ 0x50, 0, 0, 0x3F83, 16, 0x3F84, 0),
    (.vrcpbf16 .v128 ⟨1, ⟨[], .reg 3⟩, 0, false⟩, 0, 0, 0xC080, 16, 0xBE80, 0),
    (.vrsqrtbf16 .v128 ⟨1, ⟨[], .reg 3⟩, 0, false⟩, 0, 0, 0x4080, 16, 0x3F00, 0)] = true := by
  decide +kernel

theorem test_result_dot_products_1 : gives [
    (.vdphphs .v128 ⟨1, 2, ⟨[], .reg 3⟩, 0, false⟩, 0x3F800000, 0x40003C00, 0x42004000, 32, 0x41100000, 0),
    (.vpdpbssd .v128 ⟨1, 2, ⟨[], .reg 3⟩, 0, false⟩, 0x7FFFFFF0, 0x7F7F7F7F, 0x7F7F7F7F, 32, 0x8000FBF4, 0),
    (.vpdpbssds .v128 ⟨1, 2, ⟨[], .reg 3⟩, 0, false⟩, 0x7FFFFFF0, 0x7F7F7F7F, 0x7F7F7F7F, 32, 0x7FFFFFFF, 0),
    (.vpdpbsuds .v128 ⟨1, 2, ⟨[], .reg 3⟩, 0, false⟩, 0x7FFFFFF0, 0x7F7F7F7F, 0x7F7F7F7F, 32, 0x7FFFFFFF, 0),
    (.vpdpbsud .v128 ⟨1, 2, ⟨[], .reg 3⟩, 0, false⟩, 0xFFFF0000, 0xFFFFFFFF, 0xFFFFFFFF, 32, 0xFFFEFC04, 0),
    (.vpdpbuud .v128 ⟨1, 2, ⟨[], .reg 3⟩, 0, false⟩, 0xFFFF0000, 0xFFFFFFFF, 0xFFFFFFFF, 32, 0x0002F804, 0),
    (.vpdpbuuds .v128 ⟨1, 2, ⟨[], .reg 3⟩, 0, false⟩, 0xFFFF0000, 0xFFFFFFFF, 0xFFFFFFFF, 32, 0xFFFFFFFF, 0)] = true := by
  decide +kernel

theorem test_result_dot_products_2 : gives [
    (.vpdpwsud .v128 ⟨1, 2, ⟨[], .reg 3⟩, 0, false⟩, 0x80000001, 0x80008000, 0xFFFFFFFF, 32, 0x80010001, 0),
    (.vpdpwsuds .v128 ⟨1, 2, ⟨[], .reg 3⟩, 0, false⟩, 0x80000001, 0x80008000, 0xFFFFFFFF, 32, 0x80000000, 0),
    (.vpdpwusd .v128 ⟨1, 2, ⟨[], .reg 3⟩, 0, false⟩, 0x80000001, 0x80008000, 0xFFFFFFFF, 32, 0x7FFF0001, 0),
    (.vpdpwusds .v128 ⟨1, 2, ⟨[], .reg 3⟩, 0, false⟩, 0x80000001, 0x80008000, 0xFFFFFFFF, 32, 0x80000000, 0),
    (.vpdpwuud .v128 ⟨1, 2, ⟨[], .reg 3⟩, 0, false⟩, 0x80000001, 0x80008000, 0xFFFFFFFF, 32, 0x7FFF0001, 0),
    (.vpdpwuuds .v128 ⟨1, 2, ⟨[], .reg 3⟩, 0, false⟩, 0x80000001, 0x80008000, 0xFFFFFFFF, 32, 0xFFFFFFFF, 0),
    (.vmpsadbw .v128 ⟨1, 2, ⟨[], .reg 3⟩, 0, false⟩ 0x07, 0, 0x0F0E0D0C0B0A09080706050403020100,
      0x43424140333231302322212013121110, 128, 0x00D400D800DC00E000E400E800EC00F0, 0)] = true := by
  decide +kernel

theorem test_result_minmax : gives [
    (.vminmaxbf16 .v128 ⟨1, 2, ⟨[], .reg 3⟩, 0, false⟩ 0x04, 0, 0x0001, 0x8002, 16, 0x8000, 0),
    (.vminmaxph .v128 ⟨1, 2, ⟨[], .reg 3⟩, 0, false⟩ 0x04, 0, 0x0001, 0x8002, 16, 0x8002, 2),
    (.vminmaxps .v128 ⟨1, 2, ⟨[], .reg 3⟩, 0, false⟩ 0x1C, 0, 0x7FA00000, 0x3F800000, 32, 0xBF800000, 1),
    (.vminmaxpd .v128 ⟨1, 2, ⟨[], .reg 3⟩, 0, false⟩ 0x01, 0, 0xC008000000000000, 0x4000000000000000, 64,
      0xC000000000000000, 0),
    (.vminmaxss ⟨1, 2, ⟨[], .reg 3⟩, 0, false⟩ 0x05, 0, 0x333333332222222211111111C0400000, 0x40000000, 512,
      0x33333333222222221111111140000000, 0),
    (.vminmaxsd ⟨1, 2, ⟨[], .reg 3⟩, 0, false⟩ 0x01, 0, 0xC008000000000000, 0x4000000000000000, 64,
      0xC000000000000000, 0),
    (.vminmaxsh ⟨1, 2, ⟨[], .reg 3⟩, 0, false⟩ 0x04, 0, 0x0001, 0x8002, 16, 0x8002, 2)] = true := by
  decide +kernel

theorem test_result_fp8_converts_1 : gives [
    (.vcvtph2bf8 .v128 ⟨1, ⟨[], .reg 3⟩, 0, false⟩, 0, 0, 0x7B80, 8, 0x7C, 40),
    (.vcvtph2bf8s .v128 ⟨1, ⟨[], .reg 3⟩, 0, false⟩, 0, 0, 0x7B80, 8, 0x7B, 40),
    (.vcvtph2hf8 .v128 ⟨1, ⟨[], .reg 3⟩, 0, false⟩, 0, 0, 0x5F41, 8, 0x7F, 40),
    (.vcvtph2hf8s .v128 ⟨1, ⟨[], .reg 3⟩, 0, false⟩, 0, 0, 0x5F41, 8, 0x7E, 40),
    (.vcvt2ph2bf8 .v128 ⟨1, 2, ⟨[], .reg 3⟩, 0, false⟩, 0, 0x3C00, 0x03FF, 72, 0x3C0000000000000004, 34),
    (.vcvt2ph2bf8s .v128 ⟨1, 2, ⟨[], .reg 3⟩, 0, false⟩, 0, 0x7C00, 0x0001, 72, 0x7B0000000000000000, 50),
    (.vcvt2ph2hf8 .v128 ⟨1, 2, ⟨[], .reg 3⟩, 0, false⟩, 0, 0x2040, 0x1A00, 72, 0x040000000000000002, 48)] = true := by
  decide +kernel

theorem test_result_fp8_converts_2 : gives [
    (.vcvt2ph2hf8s .v128 ⟨1, 2, ⟨[], .reg 3⟩, 0, false⟩, 0, 0xFC00, 0xDF40, 72, 0xFE00000000000000FE, 32),
    (.vcvtbiasph2bf8 .v128 ⟨1, 2, ⟨[], .reg 3⟩, 0, false⟩, 0, 0x0080, 0x3C80, 8, 0x3D, 32),
    (.vcvtbiasph2bf8s .v128 ⟨1, 2, ⟨[], .reg 3⟩, 0, false⟩, 0, 0x00FF, 0x7B01, 8, 0x7B, 40),
    (.vcvtbiasph2hf8 .v128 ⟨1, 2, ⟨[], .reg 3⟩, 0, false⟩, 0, 0x0080, 0x5F40, 8, 0x7F, 40),
    (.vcvtbiasph2hf8s .v128 ⟨1, 2, ⟨[], .reg 3⟩, 0, false⟩, 0, 0x0080, 0x5F40, 8, 0x7E, 40),
    (.vcvthf82ph .v128 ⟨1, ⟨[], .reg 3⟩, 0, false⟩, 0, 0, 0x04, 16, 0x2000, 2),
    (.vcvt2ps2phx .v128 ⟨1, 2, ⟨[], .reg 3⟩, 0, false⟩, 0, 0x40800000404000004000000038000000,
      0xC0800000C0400000C0000000387FE000, 128, 0x4400420040000200C400C200C0000400, 48)] = true := by
  decide +kernel

theorem test_result_saturating_converts_1 : gives [
    (.vcvtbf162ibs .v128 ⟨1, ⟨[], .reg 3⟩, 0, false⟩, 0, 0, 0x42FF, 16, 0x007F, 0),
    (.vcvtbf162iubs .v128 ⟨1, ⟨[], .reg 3⟩, 0, false⟩, 0, 0, 0x4301, 16, 0x0081, 0),
    (.vcvttbf162ibs .v128 ⟨1, ⟨[], .reg 3⟩, 0, false⟩, 0, 0, 0xBF80, 16, 0x00FF, 0),
    (.vcvttbf162iubs .v128 ⟨1, ⟨[], .reg 3⟩, 0, false⟩, 0, 0, 0x3FC0, 16, 0x0001, 0),
    (.vcvtph2ibs .v128 ⟨1, ⟨[], .reg 3⟩, 0, false⟩, 0, 0, 0xD808, 16, 0x0080, 1),
    (.vcvtph2iubs .v128 ⟨1, ⟨[], .reg 3⟩, 0, false⟩, 0, 0, 0x57F8, 16, 0x0080, 32),
    (.vcvttph2ibs .v128 ⟨1, ⟨[], .reg 3⟩, 0, false⟩, 0, 0, 0xD804, 16, 0x0080, 32)] = true := by
  decide +kernel

theorem test_result_saturating_converts_2 : gives [
    (.vcvttph2iubs .v128 ⟨1, ⟨[], .reg 3⟩, 0, false⟩, 0, 0, 0x5BFC, 16, 0x00FF, 32),
    (.vcvtps2ibs .v128 ⟨1, ⟨[], .reg 3⟩, 0, false⟩, 0, 0, 0xC3008000, 32, 0x80, 32),
    (.vcvtps2iubs .v128 ⟨1, ⟨[], .reg 3⟩, 0, false⟩, 0, 0, 0x437F8000, 32, 0xFF, 1),
    (.vcvttps2ibs .v128 ⟨1, ⟨[], .reg 3⟩, 0, false⟩, 0, 0, 0xC3000000, 32, 0x80, 0),
    (.vcvttps2iubs .v128 ⟨1, ⟨[], .reg 3⟩, 0, false⟩, 0, 0, 0x42FF0000, 32, 0x7F, 32),
    (.vcvttpd2dqs .v128 ⟨1, ⟨[], .reg 3⟩, 0, false⟩, 0, 0, 0xC1E0000000100000, 64, 0x80000000, 32),
    (.vcvttpd2udqs .v128 ⟨1, ⟨[], .reg 3⟩, 0, false⟩, 0, 0, 0x41EFFFFFFFF00000, 64, 0xFFFFFFFF, 32)] = true := by
  decide +kernel

theorem test_result_saturating_converts_3 : gives [
    (.vcvttpd2qqs .v128 ⟨1, ⟨[], .reg 3⟩, 0, false⟩, 0, 0, 0x43E0000000000000, 64, 0x7FFFFFFFFFFFFFFF, 1),
    (.vcvttpd2uqqs .v128 ⟨1, ⟨[], .reg 3⟩, 0, false⟩, 0, 0, 0x43EFFFFFFFFFFFFF, 64, 0xFFFFFFFFFFFFF800, 0),
    (.vcvttps2dqs .v128 ⟨1, ⟨[], .reg 3⟩, 0, false⟩, 0, 0, 0xCF000001, 32, 0x80000000, 1),
    (.vcvttps2udqs .v128 ⟨1, ⟨[], .reg 3⟩, 0, false⟩, 0, 0, 0x4F32D05E, 32, 0xB2D05E00, 0),
    (.vcvttps2qqs .v128 ⟨1, ⟨[], .reg 3⟩, 0, false⟩, 0, 0, 0xCF000001, 64, 0xFFFFFFFF7FFFFF00, 0),
    (.vcvttps2uqqs .v128 ⟨1, ⟨[], .reg 3⟩, 0, false⟩, 0, 0, 0xC0200000, 64, 0, 1)] = true := by
  decide +kernel

/-- Rows (instruction, operand 1, operand 2, EFLAGS, flags recorded), from EFLAGS = 0x00000AD7 (B4, B3.2). -/
def compares (rows : List (Instr × Zmm × Zmm × Nat × Nat)) : Bool :=
  rows.all fun (i, a, b, e, f) =>
    ofNext (fun t => (t.eflags.toNat, t.mxcsr.toNat)) (exec i { st 0x1F80 a 0 b with eflags := 0xAD7 }) ==
      some (e, 0x1F80 + f)

theorem test_result_compares : compares [
    (.vcomisbf16 ⟨1, ⟨[], .reg 3⟩⟩, 0x4000, 0x3F80, 0x00000202, 0),
    (.vcomxss ⟨1, ⟨[], .reg 3⟩⟩, 0x7FC00000, 0x3F800000, 0x00000A87, 1),
    (.vucomxss ⟨1, ⟨[], .reg 3⟩⟩, 0x7FC00000, 0x3F800000, 0x00000A87, 0),
    (.vcomxsd ⟨1, ⟨[], .reg 3⟩⟩, 0xBFF0000000000000, 0x3FF0000000000000, 0x00000A03, 0),
    (.vucomxsd ⟨1, ⟨[], .reg 3⟩⟩, 0x8000000000000000, 0, 0x00000AC2, 0),
    (.vcomxsh ⟨1, ⟨[], .reg 3⟩⟩, 0x0001, 0x0000, 0x00000202, 2),
    (.vucomxsh ⟨1, ⟨[], .reg 3⟩⟩, 0xFC00, 0x7C00, 0x00000A03, 0)] = true := by
  decide +kernel

/-- The fault of an outcome. -/
def faultOf (o : Out) : Option Fault :=
  match o with
  | .fault f => some f
  | .next _ | .refused _ => none

/-- The refusal of an outcome. -/
def refusedOf (o : Out) : Option Refusal :=
  match o with
  | .refused r => some r
  | .next _ | .fault _ => none

/-- VCOMXSS with an unmasked IE raises #XM, MXCSR showing the flag (B4, last rows); with SAE it completes. -/
theorem test_compare_unmasked :
    faultOf (exec (.vcomxss ⟨1, ⟨[], .reg 3⟩⟩) (st 0x1F00 0x7FC00000 0 0x3F800000)) =
      some (.simdFloatingPoint (st 0x1F01 0x7FC00000 0 0x3F800000)) ∧
    ofNext (fun t => t.mxcsr) (exec (.vcomxss ⟨1, ⟨[], .regSae 3⟩⟩) (st 0x1F00 0x7FC00000 0 0x3F800000)) =
      some 0x1F00 := by
  decide +kernel

/-- Rows (instruction, source, rcx, flags recorded), from rcx = all ones (B8.4, B8.5, P3). -/
def converts (rows : List (Instr × Zmm × Nat × Nat)) : Bool :=
  rows.all fun (i, x, r, f) =>
    ofNext (fun t => ((t.general 1).toNat,
      t.mxcsr.toNat)) (exec i ((st 0x1F80 0 0 x).setGeneral 1 (BitVec.allOnes 64))) ==
      some (r, 0x1F80 + f)

theorem test_result_scalar_converts : converts [
    (.vcvttsd2sisR32 ⟨1, ⟨[], .reg 3⟩⟩, 0xC004000000000000, 0x00000000FFFFFFFE, 0x20),
    (.vcvttsd2sisR64 ⟨1, ⟨[], .reg 3⟩⟩, 0xC1E0000000200000, 0xFFFFFFFF7FFFFFFF, 0),
    (.vcvttsd2usisR32 ⟨1, ⟨[], .reg 3⟩⟩, 0x41F0000000000000, 0x00000000FFFFFFFF, 1),
    (.vcvttsd2usisR64 ⟨1, ⟨[], .reg 3⟩⟩, 0x43E0000000000000, 0x8000000000000000, 0),
    (.vcvttss2sisR32 ⟨1, ⟨[], .reg 3⟩⟩, 0x4F32D05E, 0x000000007FFFFFFF, 1),
    (.vcvttss2sisR64 ⟨1, ⟨[], .reg 3⟩⟩, 0xDF000001, 0x8000000000000000, 1),
    (.vcvttss2usisR32 ⟨1, ⟨[], .reg 3⟩⟩, 0x4F7FFFFF, 0x00000000FFFFFF00, 0),
    (.vcvttss2usisR64 ⟨1, ⟨[], .reg 3⟩⟩, 0x4F32D05E, 0x00000000B2D05E00, 0)] = true := by
  decide +kernel

/-- P2: VCMPBF16 k1, xmm1, xmm2, 1 gives 0x91, B10.6 the write mask, B3.3 the classes 7 and 6 of FF81 and FF7F. -/
theorem test_result_opmask :
    ofNext (fun t => t.opmask 2) (exec (.vcmpbf16 .v128 ⟨2, 1, ⟨[], .reg 3⟩, 0⟩ 1)
      (st 0x1F80 0x3F8180007F80C00000017FC040003F80 0 0x3F8200007F80BF8000003F803F804000)) = some 0x91 ∧
    ofNext (fun t => t.opmask 2) (exec (.vcmpbf16 .v128 ⟨2, 1, ⟨[], .reg 3⟩, 1⟩ 0) (st 0x1F80 0 0 0)) = some 5 ∧
    ofNext (fun t => t.opmask 2) (exec (.vfpclassbf16 .v128 ⟨2, ⟨[], .reg 3⟩, 0⟩ 0xC0)
      (st 0x1F80 0 0 0x3F80FF7FFF81)) = some 3 := by
  decide +kernel

/-- B10.1, B10.2: merging and zeroing under k1 = 5; bits 511:128 become 0. -/
theorem test_write_mask :
    ofNext (fun t => t.vec 1) (exec (.vaddbf16 .v128 ⟨1, 2, ⟨[], .reg 3⟩, 1, false⟩)
      (st 0x1F80 (BitVec.allOnes 512) 0x3F803F803F803F80 0x4000400040004000)) = some 0xFFFFFFFFFFFFFFFFFFFF4040FFFF4040 ∧
    ofNext (fun t => t.vec 1) (exec (.vaddbf16 .v128 ⟨1, 2, ⟨[], .reg 3⟩, 1, true⟩)
      (st 0x1F80 (BitVec.allOnes 512) 0x3F803F803F803F80 0x4000400040004000)) = some 0x404000004040 := by
  decide +kernel

/-- B9: VMOVD and VMOVW between registers. -/
theorem test_result_partial_copies :
    ofNext (fun t => t.vec 1) (exec (.vmovdLoad ⟨1, ⟨[], .reg 3⟩⟩) (st 0x1F80 7 0 0x7766554433221100)) = some 0x33221100 ∧
    ofNext (fun t => t.vec 1) (exec (.vmovwLoad ⟨1, ⟨[], .reg 3⟩⟩) (st 0x1F80 7 0 0x33221100)) = some 0x1100 ∧
    ofNext (fun t => t.vec 3) (exec (.vmovdStore ⟨1, ⟨[],
      .reg 3⟩⟩) (st 0x1F80 0x7766554433221100 0 7)) = some 0x33221100 ∧
    ofNext (fun t => t.vec 3) (exec (.vmovwStore ⟨1, ⟨[], .reg 3⟩⟩) (st 0x1F80 0x33221234 0 7)) = some 0x1234 := by
  decide +kernel

/-- B9: VMOVD [rax], xmm1 stores EF BE AD DE, and VMOVW xmm1, [rax+2] reads what stands there, whole steps from memory. -/
theorem test_step_memory :
    ofNext (fun t => (t.mem,
      t.pc)) (step (((st 0x1F80 0 0xDEADBEEF 0).setGeneral 0 0x1000).withFetchWord 48 0x10D6087DF162)) =
      some ([(0, 0x62), (1, 0xF1), (2, 0x7D), (3, 0x08), (4, 0xD6), (5, 0x10), (0x1000, 0xEF), (0x1001, 0xBE),
        (0x1002, 0xAD), (0x1003, 0xDE)], 6) ∧
    ofNext (fun t => (t.vec 1,
      t.pc)) (step ((((st 0x1F80 7 0 0).setGeneral 0 0x1000).setByte 0x1003 0xAB).withFetchWord 56
      0x01486E087EF562)) = some (0xAB00, 7) := by
  decide +kernel

/-! ## What the hypotheses of the statements hold of -/

/-- An access to memory through rax, with the region 0x2000 to 0x2FFF not present, 0x3000 to 0x3FFF illegal, 0x4000 to
0x4FFF moved, and 0x5000 to 0x5FFF illegal for accesses of two bytes. -/
def mm (rax : BitVec 64) : State :=
  { (st 0x1F80 0 0 0).setGeneral 0 rax with
    translation := [⟨0x2000, 0x2FFF, none, none, none, none, .pageFault 6⟩, ⟨0x3000, 0x3FFF, none, none, none, none,
      .illegal⟩,
      ⟨0x4000, 0x4FFF, none, none, some .read, some .ds, .mapped 0x10000⟩,
      ⟨0x5000, 0x5FFF, none, some 2, none, none, .illegal⟩] }

/-- `mm` with alignment checking on at CPL 3. -/
def mmAc (rax : BitVec 64) : State := { mm rax with cr0 := 0x40000, eflags := 0x40002 }

def atRax : RM := ⟨[], .mem (.base 0 .none)⟩
def bcstRax : RM := ⟨[], .bcst (.base 0 .none)⟩
def xmm3 : RM := ⟨[], .reg 3⟩
def sae3 : RM := ⟨[], .regSae 3⟩
def er3 : RM := ⟨[], .regEr 3 1⟩

/-- B10.3: under k1 = 5 only elements 0 and 2 are read; the first address of the absent region belongs to element 3, then
to element 2. -/
theorem test_fault_suppression :
    ofNext (fun t => t.pc) (exec (.vaddbf16 .v128 ⟨1, 2, atRax, 1, false⟩) (mm 0x1FFA)) = some 6 ∧
    faultOf (exec (.vaddbf16 .v128 ⟨1, 2, atRax, 1, false⟩) (mm 0x1FFC)) = some (.pageFault 6 (mm 0x1FFC)) ∧
    faultOf (exec (.vaddbf16 .v128 ⟨1, 2, atRax, 0, false⟩) (mm 0x1FFA)) = some (.pageFault 6 (mm 0x1FFA)) := by
  decide +kernel

/-- The translation knows the size of an access (spec/20_memory.md R70). -/
theorem test_translate_size :
    faultOf (exec (.vmovwLoad ⟨1, atRax⟩) (mm 0x5000)) = some (.generalProtection (mm 0x5000)) ∧
    ofNext (fun t => t.pc) (exec (.vmovdLoad ⟨1, atRax⟩) (mm 0x5000)) = some 6 := by decide +kernel

theorem ready_st (m : BitVec 32) (r1 r2 r3 : Zmm) (op : Op) : Ready (st m r1 r2 r3) op := by
  have hc : (st m r1 r2 r3).cpuid.has op.info.feature = true := by
    show Cpuid.reset.has op.info.feature = true
    cases op.info.feature <;> decide
  have h0 : (st m r1 r2 r3).cr0 = 0#64 := rfl
  have h4 : (st m r1 r2 r3).cr4 = 0x40400#64 := rfl
  have hx : (st m r1 r2 r3).xcr0 = 0xE7#64 := rfl
  have hm : (st m r1 r2 r3).mode = .mode64 := rfl
  constructor <;> first | exact hc | (simp only [h0, h4, hx, hm]; decide)

/-- Every register form without legacy bytes runs from `st`. -/
theorem runs_st (m : BitVec 32) (r1 r2 r3 : Zmm) (i : Instr) (hp : i.parts.raw.rm.pfx = [])
    (hl : i.parts.raw.rm.loc.register = some 3) : Runs i (st m r1 r2 r3) r3 := by
  refine ⟨ready_st m r1 r2 r3 _, ?_, ?_⟩
  · have hv : (st m r1 r2 r3).vec 3 = r3 := by simp [st]
    unfold State.source
    cases h : i.parts.raw.rm.loc with
    | mem a => simp [h, Loc.register] at hl
    | bcst a => simp [h, Loc.register] at hl
    | reg r => simp only [h, Loc.register, Option.some.injEq] at hl; rw [hl]; exact congrArg Except.ok hv
    | regSae r => simp only [h, Loc.register, Option.some.injEq] at hl; rw [hl]; exact congrArg Except.ok hv
    | regEr r rc => simp only [h, Loc.register, Option.some.injEq] at hl; rw [hl]; exact congrArg Except.ok hv
  · have h1 : i.length ≤ 7 := by
      have : i.parts.raw.rm.loc.length = 0 := by
        cases h : i.parts.raw.rm.loc <;> simp_all [Loc.register, Loc.length]
      simp only [Instr.length, Op.length, hp, this, List.length_nil]
      split <;> omega
    have h2 : (st m r1 r2 r3).pc = 0 := rfl
    have h3 : (st m r1 r2 r3).pcBits = 64 := rfl
    rw [Fits, h2, h3]
    simp
    omega

/-- The union of the flags always exists. -/
theorem collected_union (s : State) (aaa : KReg) (n : Nat) (fl : Nat → Flags) :
    Collected s aaa n fl (collectFlags (s.active aaa) fl n) := getLsbD_collectFlags _ _ _

/-- With all exceptions masked every flag set is quiet. -/
theorem quiet_masked (r1 r2 r3 : Zmm) (loc : Loc) (F : Flags) : Quiet (st 0x1F80 r1 r2 r3) loc F := by
  right
  have : (st 0x1F80 r1 r2 r3).masks = 0x3F#6 := (by decide : (0x1F80#32).extractLsb' 7 6 = 0x3F#6)
  rw [this]
  simp

theorem loud_unmasked (r1 r2 r3 : Zmm) (loc : Loc) (F : Flags) (hl : loc.sae = false) (hF : F ≠ 0) :
    ¬ Quiet (st 0 r1 r2 r3) loc F := by
  rintro (h | h)
  · simp [hl] at h
  · have : (st 0 r1 r2 r3).masks = 0#6 := (by decide : (0#32).extractLsb' 7 6 = 0#6)
    rw [this, show ~~~(0#6) = BitVec.allOnes 6 from rfl, BitVec.and_allOnes] at h
    exact hF h

theorem next_of {o : Out} (h : ofNext (fun _ => true) o = some true) : ∃ t, o = .next t := by
  cases o with
  | next t => exact ⟨t, rfl⟩
  | fault f => cases h
  | refused r => cases h

theorem refused_of {o : Out} {r : Refusal} (h : refusedOf o = some r) : o = .refused r := by
  cases o with
  | next t => cases h
  | fault g => cases h
  | refused q => cases h; rfl

theorem fault_of {o : Out} {f : Fault} (h : faultOf o = some f) : o = .fault f := by
  cases o with
  | next t => cases h
  | fault g => cases h; rfl
  | refused r => cases h

theorem runs_all (m : BitVec 32) (r1 r2 r3 : Zmm) (l : List Instr)
    (h : l.all (fun i => i.parts.raw.rm.pfx == [] && i.parts.raw.rm.loc.register == some 3) = true) :
    ∀ i ∈ l, Runs i (st m r1 r2 r3) r3 := by
  intro i hi
  have := List.all_eq_true.1 h i hi
  simp only [Bool.and_eq_true, beq_iff_eq] at this
  exact runs_st m r1 r2 r3 i this.1 this.2

/-! ### Encoding -/

theorem witness_DecodeEncode :
    (Instr.vminmaxps .v512 ⟨31, 31, ⟨List.replicate 2 .addr32, .bcst (.sib 3 15 15 (.d32 0x80000000))⟩, 7,
      true⟩ 0xFF).wf = true ∧
    (Instr.vminmaxps .v512 ⟨31, 31, ⟨List.replicate 3 .addr32, .bcst (.sib 3 15 15 (.d32 0x80000000))⟩, 7,
      true⟩ 0xFF).length = 15 ∧
    (Instr.vmovdStore ⟨0, ⟨[], .reg 0⟩⟩).wf = true ∧ (Instr.vmovdStore ⟨0, ⟨[], .reg 0⟩⟩).length = 6 := by
  decide +kernel

theorem witness_DecodedIsWellFormed :
    decode .mode64 [0x62, 0xF5, 0x6D, 0x8A, 0x58, 0xCB, 7] = .instr (.vaddbf16 .v128 ⟨1, 2, xmm3, 2, true⟩) [7] ∧
    decode .mode64 (List.replicate 9 0x3E ++ [0x62, 0xF5, 0x6D, 0x8A, 0x58, 0xCB, 7]) =
      .instr (.vaddbf16 .v128 ⟨1, 2, ⟨List.replicate 9 (.seg .ds), .reg 3⟩, 2, true⟩) [7] := by
  decide +kernel

theorem witness_LeadBytesUndefined :
    (Instr.vaddbf16 .v128 ⟨1, 2, ⟨List.replicate 8 (.seg .ds), .reg 3⟩, 0, false⟩).wf = true ∧
    (Instr.vaddbf16 .v128 ⟨1, 2, ⟨List.replicate 8 (.seg .ds), .reg 3⟩, 0, false⟩).length = 14 ∧
    (∀ b ∈ [(0x40 : Byte), 0x4F], 0x40 ≤ b ∧ b ≤ 0x4F) := by decide +kernel

/-- A legal encoding with a register and with memory,
  and for each condition of R108 (f) to (j) one that fails it alone. -/
theorem witness_ReservedFieldsUndefined :
    Op.find ((0xF5#8).extractLsb' 0 3) ((0x6D#8).extractLsb' 0 2) ((0x6D#8).getLsbD 7) 0x58 = some .vaddbf16 ∧
    (0xCB#8).extractLsb' 6 2 = 3#2 ∧ (0x84#8).extractLsb' 6 2 ≠ 3#2 ∧
    decode .mode64 [0x62, 0xF5, 0x6D, 0x8A, 0x58, 0xCB, 0] = .instr (.vaddbf16 .v128 ⟨1, 2, xmm3, 2, true⟩) [0] ∧
    decode .mode64 [0x62, 0xF5, 0x6D, 0x18, 0x58, 0x84, 0x98, 1, 0, 0, 0, 0] =
      .instr (.vaddbf16 .v128 ⟨0, 2, ⟨[], .bcst (.sib 2 3 0 (.d32 1))⟩, 0, false⟩) [0] ∧
    ([[0x62, 0xFD, 0x6D, 0x08, 0x58, 0xCB, 0], [0x62, 0xF5, 0x69, 0x08, 0x58, 0xCB, 0],
      [0x62, 0xF5, 0x6D, 0x08, 0x51, 0xCB, 0], [0x62, 0xF5, 0x7D, 0x00, 0x51, 0xCB, 0],
      [0x62, 0x73, 0x77, 0x08, 0xC2, 0xCA, 1], [0x62, 0xE3, 0x77, 0x08, 0xC2, 0xCA, 1],
      [0x62, 0xE5, 0x7E, 0x08, 0x6D, 0xC9, 0], [0x62, 0xF1, 0x7E, 0x09, 0x2F, 0xCA, 0],
      [0x62, 0xF3, 0x77, 0x89, 0xC2, 0xCA, 1], [0x62, 0xF5, 0x6D, 0x88, 0x58, 0xCB, 0],
      [0x62, 0xF5, 0x6D, 0x18, 0x58, 0xCB, 0], [0x62, 0xF5, 0x6D, 0x68, 0x58, 0xCB, 0],
      [0x62, 0xF5, 0x7E, 0x28, 0x6E, 0xCA, 0], [0x62, 0xF5, 0x7F, 0x18, 0x1E, 0x08, 0, 0, 0, 0, 0, 0],
      [0x62, 0xF5, 0x6D, 0x78, 0x58, 0x08, 0, 0, 0, 0, 0, 0],
      [0x62, 0xF5, 0x7E, 0x28, 0x6E, 0x08, 0, 0, 0, 0, 0, 0]] : List (List Byte)).all
        (fun bs => decode .mode64 bs == .invalid) = true := by
  decide +kernel

/-! ### The step -/

/-- VADDBF16 xmm1, xmm2, xmm3 at pc. -/
def add : State := (st 0x1F80 0 0 0).withFetchWord 48 0xCB58086DF562

theorem witness_StepRunsDecoded :
    (∃ rest, decode add.mode add.fetchBytes = .instr (.vaddbf16 .v128 ⟨1, 2, xmm3, 0, false⟩) rest) ∧
    decode ((st 0 0 0 0).withFetchWord 48 0xCB58186DF562).mode ((st 0 0 0 0).withFetchWord 48 0xCB58186DF562).fetchBytes =
      .invalid ∧
    decode (st 0 0 0 0).mode (st 0 0 0 0).fetchBytes = .rejected .foreign :=
  ⟨⟨List.replicate 9 0, by decide +kernel⟩, by decide +kernel, by decide +kernel⟩

/-- The same bytes in 64-bit mode and in the two modes without EVEX. -/
theorem witness_StepRunsEncoded :
    (Instr.vaddbf16 .v128 ⟨1, 2, xmm3, 0, false⟩).wf = true ∧ add.mode = .mode64 ∧
    (∀ m ∈ [Mode.mode64, .real, .virtual8086],
      ∀ (n : Nat) (h : n < (encode (.vaddbf16 .v128 ⟨1, 2, xmm3, 0, false⟩)).length),
      { add with mode := m }.byteAt ({ add with mode := m }.pc + BitVec.ofNat 64 n) =
        (encode (.vaddbf16 .v128 ⟨1, 2, xmm3, 0, false⟩))[n]) ∧
    (Instr.vaddbf16 .v128 ⟨1, 2, xmm3, 0, false⟩).parts.evex.r = false ∧
    (Instr.vaddbf16 .v128 ⟨1, 2, xmm3, 0, false⟩).parts.evex.x = false := by
  decide +kernel

theorem witness_StepKeepsInv : add.Inv ∧ ∃ t, step add = .next t :=
  ⟨⟨by decide +kernel, by decide +kernel, by decide +kernel⟩, next_of (by decide +kernel)⟩

/-! ### When an instruction runs -/

theorem witness_OsxsaveClearRaisesUd :
    State.reset.cr4.getLsbD 18 = false ∧ { add with mode := .real }.cr4.getLsbD 18 = true := by decide

/-- One state for each of the conditions; a processor without AVX10.2 but with AVX10_VNNI_INT runs the forms of the list. -/
theorem witness_NotEnabledRaisesUd :
    { add with mode := .real }.mode = .real ∧ { add with mode := .virtual8086 }.mode = .virtual8086 ∧
    (∀ b ∈ [1, 2, 5, 6, 7], { add with xcr0 := 0xE7 ^^^ (1 <<< b) }.xcr0.getLsbD b = false) ∧
    (let c : Cpuid := { Cpuid.reset with leaf24s0Ebx := 0x00070001, leaf24s1Ecx := 0 }
     ¬ (c.leaf7s1Edx.getLsbD 19 = true ∧ 2 ≤ (c.leaf24s0Ebx.extractLsb' 0 8).toNat) ∧ c.leaf24s1Ecx.getLsbD 2 = false) ∧
    (ofNext (fun _ => true) (exec (.vpdpbssd .v128 ⟨1, 2, xmm3, 0, false⟩)
      { st 0 0 0 0 with cpuid := { Cpuid.reset with leaf7s1Edx := 0 } }) = some true) := by
  decide +kernel

theorem witness_TaskSwitchedRaisesNm :
    { add with cr0 := 8 }.cr0.getLsbD 3 = true ∧ { add with cr0 := 8 }.undefinedHere .avx10v2 = false ∧
    { State.reset with cr0 := 8 }.undefinedHere .avx10v2 = true := by decide +kernel

/-- The last pc an instruction of six bytes completes at, and the first it does not. -/
theorem witness_PcAdvances :
    (∃ t, exec (.vaddbf16 .v128 ⟨1, 2, xmm3, 0, false⟩) { st 0 0 0 0 with pc := 0xFFFFFFFFFFFFFFF9 } = .next t) ∧
    (∃ r, exec (.vaddbf16 .v128 ⟨1, 2, xmm3, 0, false⟩) { st 0 0 0 0 with pc := 0xFFFFFFFFFFFFFFFA } = .refused r) := by
  exact ⟨next_of (by decide +kernel), ⟨.pcOverflow, refused_of (by decide +kernel)⟩⟩

/-- A recorded flag with #XM, the same with CR4.OSXMMEXCPT = 0, and a #UD without a flag. -/
theorem witness_FaultsArePrecise :
    exec (.vcomxss ⟨1, xmm3⟩) (st 0x1F00 0x7FC00000 0 0) = .fault (.simdFloatingPoint (st 0x1F01 0x7FC00000 0 0)) ∧
    exec (.vcomxss ⟨1, xmm3⟩) { st 0x1F00 0x7FC00000 0 0 with cr4 := 0x40000 } =
      .fault (.invalidOpcode { st 0x1F01 0x7FC00000 0 0 with cr4 := 0x40000 }) ∧
    exec (.vcomxss ⟨1, xmm3⟩) State.reset = .fault (.invalidOpcode State.reset) :=
  ⟨fault_of (by decide +kernel), fault_of (by decide +kernel), fault_of (by decide +kernel)⟩

/-- A masked run that records IE; the two exceptions; a run that signals nothing. -/
theorem witness_OsxmmexcptSelects :
    ofNext (fun t => t.mxcsr) (exec (.vcomxss ⟨1, xmm3⟩) (st 0x1F00 0x7FC00000 0 0).allMasked) = some 0x1F81 ∧
    (Instr.vcomxss ⟨1, xmm3⟩).op.info.cls.consultsMasks = true ∧ (1 : Flags) &&& ~~~(st 0x1F00 0 0 0).masks ≠ 0 ∧
    exec (.vcomxss ⟨1, xmm3⟩) (st 0x1F00 0x7FC00000 0 0) = .fault (.simdFloatingPoint (st 0x1F01 0x7FC00000 0 0)) ∧
    exec (.vcomxss ⟨1, xmm3⟩) { st 0x1F00 0x7FC00000 0 0 with cr4 := 0x40000 } =
      .fault (.invalidOpcode { st 0x1F01 0x7FC00000 0 0 with cr4 := 0x40000 }) ∧
    { st 0x1F00 0x7FC00000 0 0 with cr4 := 0x40000 }.undefinedHere .avx10v2 = false ∧
    ofNext (fun t => t.mxcsr) (exec (.vcomxss ⟨1, xmm3⟩) (st 0 0 0 0).allMasked) = some 0x1F80 :=
  ⟨by decide +kernel, by decide, by decide, fault_of (by decide +kernel), fault_of (by decide +kernel), by decide +kernel,
    by decide +kernel⟩

/-! ### What an instruction leaves alone -/

/-- A step that records a flag, and one with SAE. -/
theorem witness_MxcsrFrame :
    (∃ t, exec (.vcomxss ⟨1, xmm3⟩) (st 0x1F80 0x7FC00000 0 0) = .next t) ∧
    (∃ t, exec (.vcomxss ⟨1, sae3⟩) (st 0 0x7FC00000 0 0) = .next t) :=
  ⟨next_of (by decide +kernel), next_of (by decide +kernel)⟩

theorem witness_SystemFrame :
    (∃ t, exec (.vaddbf16 .v128 ⟨1, 2, xmm3, 0, false⟩) (st 0 0 0 0) = .next t) ∧
    (∃ t, exec (.vcomisbf16 ⟨1, xmm3⟩) (st 0 0 0 0) = .next t) :=
  ⟨next_of (by decide +kernel), next_of (by decide +kernel)⟩

/-- One instruction of each kind of destination. -/
theorem witness_RegisterFrame :
    (∃ t, exec (.vaddbf16 .v128 ⟨1, 2, xmm3, 0, false⟩) (st 0 0 0 0) = .next t) ∧
    (∃ t, exec (.vcmpbf16 .v128 ⟨1, 2, xmm3, 0⟩ 0) (st 0 0 0 0) = .next t) ∧
    (∃ t, exec (.vcvttss2sisR64 ⟨1, xmm3⟩) (st 0 0 0 0) = .next t) ∧
    (∃ t, exec (.vmovwStore ⟨1, xmm3⟩) (st 0 0 0 0) = .next t) :=
  ⟨next_of (by decide +kernel), next_of (by decide +kernel), next_of (by decide +kernel), next_of (by decide +kernel)⟩

/-- A store of four bytes at 0x1FFC, and the addresses beside it. -/
theorem witness_MemoryFrame :
    memWf (mm 0x1FFC).mem = true ∧ (∃ t, exec (.vmovdStore ⟨1, atRax⟩) (mm 0x1FFC) = .next t) ∧
    (∀ m ∈ memoryAccess (.vmovdStore ⟨1, atRax⟩) (mm 0x1FFC), ∀ o ∈ List.range m.size,
      0x1FFB ≠ (mm 0x1FFC).physical m o) ∧
    (∀ m ∈ memoryAccess (.vmovdStore ⟨1, atRax⟩) (mm 0x1FFC), ∀ o ∈ List.range m.size,
      0x2000 ≠ (mm 0x1FFC).physical m o) :=
  ⟨by decide, next_of (by decide +kernel), by decide +kernel, by decide +kernel⟩

theorem witness_UpperBitsZero :
    (∃ t, exec (.vcvtph2bf8 .v128 ⟨1, xmm3, 0, false⟩) (st 0x1F80 0 0 0) = .next t) ∧
    (Instr.vcvtph2bf8 .v128 ⟨1, xmm3, 0, false⟩).vectorDest = some 1 ∧
    (∃ t, exec (.vmovdStore ⟨1, xmm3⟩) (st 0x1F80 0 0 0) = .next t) ∧
    (Instr.vmovdStore ⟨1, xmm3⟩).vectorDest = some 3 :=
  ⟨next_of (by decide +kernel), rfl, next_of (by decide +kernel), rfl⟩

theorem witness_MxcsrIndependent :
    (Instr.vaddbf16 .v128 ⟨1, 2, xmm3, 0, false⟩).op.info.cls = .e4 ∧ (Instr.vmovdLoad ⟨1, xmm3⟩).op.info.cls = .e9nf ∧
    (Instr.vcomisbf16 ⟨1, xmm3⟩).op.info.cls = .e10nf ∧ (Instr.vmpsadbw .v128 ⟨1, 2, xmm3, 0, false⟩ 0).op = .vmpsadbw :=
  ⟨rfl, rfl, rfl, rfl⟩

theorem witness_PrivilegeIndependent :
    (mm 1).cr0.getLsbD 18 = false ∧ { mmAc 1 with eflags := 2 }.eflags.getLsbD 18 = false := by decide

/-! ### Memory operands -/

/-- Every form of address, without an override, under FS and 67H,
  and under two overrides; in 64-bit mode and outside it. -/
theorem witness_EffectiveAddress :
    (mm 0).mode = .mode64 ∧ { mm 0 with mode := .protectedMode }.mode ≠ .mode64 ∧
    ∀ (a : Addr), ∀ pfx ∈ [[], [.seg .fs, .addr32], [.seg .ss, .seg .ds]],
      (Instr.vmovdLoad ⟨1, ⟨pfx, .mem a⟩⟩).parts.raw.rm.loc.addr = some a ∧
      (∃ m, memoryAccess (.vmovdLoad ⟨1, ⟨pfx, .mem a⟩⟩) (mm 0) = some m) ∧
      ∃ m, memoryAccess (.vmovdLoad ⟨1, ⟨pfx, .mem a⟩⟩) { mm 0 with mode := .protectedMode } = some m :=
  ⟨rfl, by decide, fun _ _ _ => ⟨rfl, ⟨_, rfl⟩, _, rfl⟩⟩

/-- A full operand and a broadcast, without a mask and with the mask 5. -/
theorem witness_AccessedBytes :
    ∀ rm ∈ [atRax, bcstRax], ∀ k ∈ [0, 1],
      (memoryAccess (.vaddbf16 .v128 ⟨1, 2, rm, k, false⟩) (mm 0)).isSome = true := by decide +kernel

/-- The three clauses: the last byte of four is the first illegal or absent one; rax is odd. -/
theorem witness_MemoryFaultTaken :
    (∀ s ∈ [mm 0x2FFD, mm 0x1FFD, mmAc 0x1001, mmAc 0x1003], s.undefinedHere .avx10v2 = false ∧ s.ts = false) ∧
    (∃ m, memoryAccess (.vmovdLoad ⟨1, atRax⟩) (mm 0x2FFD) = some m ∧ m.kindAt (mm 0x2FFD) 3 = .illegal ∧ 3 ∈ m.offs) ∧
    (∃ m, memoryAccess (.vmovdLoad ⟨1, atRax⟩) (mm 0x1FFD) = some m ∧ m.kindAt (mm 0x1FFD) 3 = .pageFault 6 ∧ 3 ∈ m.offs ∧
      (∀ o ∈ m.offs, m.kindAt (mm 0x1FFD) o ≠ .illegal) ∧
      ∀ o ∈ List.range 3, (m.kindAt (mm 0x1FFD) o).isMapped = true) :=
  ⟨by decide +kernel, ⟨_, rfl, by decide +kernel⟩, ⟨_, rfl, by decide +kernel⟩⟩

/-- The third clause at both ends of the offsets that are not aligned. -/
theorem witness_MemoryFaultTaken_alignment :
    (∃ m ∈ memoryAccess (.vmovdLoad ⟨1, atRax⟩) (mmAc 0x1001),
      (∀ o ∈ m.offs, (m.kindAt (mmAc 0x1001) o).isMapped = true) ∧ m.offs ≠ [] ∧ m.size = 4 ∧ m.ea.toNat % m.size ≠ 0) ∧
    (∃ m ∈ memoryAccess (.vmovdLoad ⟨1, atRax⟩) (mmAc 0x1003),
      (∀ o ∈ m.offs, (m.kindAt (mmAc 0x1003) o).isMapped = true) ∧ m.offs ≠ [] ∧ m.size = 4 ∧ m.ea.toNat % m.size ≠ 0) ∧
    (mmAc 1).cr0.getLsbD 18 = true ∧ (mmAc 1).eflags.getLsbD 18 = true ∧ (mmAc 1).cpl = 3 :=
  ⟨⟨_, rfl, by decide +kernel⟩, ⟨_, rfl, by decide +kernel⟩, by decide⟩

/-- A register; a full operand that is moved; with alignment checking, an aligned one and one of 16 bytes at an odd
address. -/
theorem witness_SourceIsReadable :
    (Instr.vaddbf16 .v128 ⟨1, 2, xmm3, 0, false⟩).parts.raw.rm.loc.register = some 3 ∧
    (Instr.vmovdLoad ⟨1, atRax⟩).op.target ≠ .store ∧
    (∀ s ∈ [mm 0x4FFF, mmAc 0x1004], ∃ m ∈ memoryAccess (.vmovdLoad ⟨1, atRax⟩) s,
      (∀ o ∈ m.offs, (m.kindAt s o).isMapped = true) ∧
      (s.cr0.getLsbD 18 = true ∧ s.eflags.getLsbD 18 = true ∧ s.cpl = 3 ∧ m.size ∈ [2, 4, 8] → m.ea.toNat % m.size = 0)) ∧
    (∃ m ∈ memoryAccess (.vaddbf16 .v128 ⟨1, 2, atRax, 0, false⟩) (mmAc 0x1001), m.size ∉ [2, 4, 8]) := by
  refine ⟨rfl, by decide, ?_, ⟨_, rfl, by decide⟩⟩
  intro s hs
  refine ⟨_, rfl, ?_⟩
  revert s
  decide +kernel

theorem witness_BroadcastReplicates :
    (Instr.vaddbf16 .v128 ⟨1, 2, bcstRax, 1, false⟩).op.info.bcst = true ∧
    (∃ j, j < 8 ∧ (mmAc 0x1FFE).active 1 j = true) ∧
    ∃ m ∈ memoryAccess (.vaddbf16 .v128 ⟨1, 2, bcstRax, 1, false⟩) (mmAc 0x1FFE),
      (∀ o, o < 2 → (m.kindAt (mmAc 0x1FFE) o).isMapped = true) ∧ m.ea.toNat % m.size = 0 := by
  refine ⟨rfl, ⟨2, by decide, by decide⟩, _, rfl, by decide +kernel, by decide +kernel⟩

/-! ### Results -/

theorem witness_Bf16BinaryResults : ∀ i ∈ ([
      .vaddbf16 .v128 ⟨1, 2, xmm3, 0, false⟩, .vsubbf16 .v128 ⟨1, 2, xmm3, 0, false⟩,
      .vmulbf16 .v128 ⟨1, 2, xmm3, 0, false⟩, .vdivbf16 .v128 ⟨1, 2, xmm3, 0, false⟩,
      .vscalefbf16 .v128 ⟨1, 2, xmm3, 0, false⟩] : List Instr),
    Runs i (st 0x1F80 0x4000 0x4040 0x3F80) 0x3F80 :=
  runs_all _ _ _ _ _ (by decide +kernel)

theorem witness_Bf16MaxMinResults : ∀ i ∈ ([
      .vmaxbf16 .v512 ⟨1, 2, xmm3, 0, false⟩, .vminbf16 .v512 ⟨1, 2, xmm3, 0, false⟩] : List Instr),
    Runs i (st 0x1F80 0x4000 0x4040 0x3F80) 0x3F80 :=
  runs_all _ _ _ _ _ (by decide +kernel)

/-- The operands of the clauses on VSCALEFBF16: infinities with a zero,
  a denormal and an infinity; results at both ends of
the normal range and beyond them. -/
theorem witness_Bf16BinaryResults_scalef :
    (bf16.isInf 0x7F80 = true ∧ bf16.sign 0x7F80 = false ∧ bf16.isInf 0xFF80 = true ∧ bf16.sign 0xFF80 = true) ∧
    (bf16.isZero (bf16.daz 0x8001) = true ∧ bf16.isNaN 0x8001 = false ∧ bf16.isFinite 0xBF00 = true) ∧
    (∀ a ∈ [0x0080, 0x7F7F], ∀ b ∈ [0x3F80, 0xBF80, 0x0000],
      bf16.isFinite a = true ∧ bf16.isFinite b = true ∧ bf16.rat (bf16.daz a) ≠ 0) ∧
    |bf16.rat (bf16.daz 0x0080) * (2 : ℚ) ^ ⌊bf16.rat (bf16.daz 0xBF80)⌋| < (2 : ℚ) ^ (-126 : ℤ) ∧
    (2 : ℚ) ^ 128 ≤ |bf16.rat (bf16.daz 0x7F7F) * (2 : ℚ) ^ ⌊bf16.rat (bf16.daz 0x3F80)⌋| ∧
    (2 : ℚ) ^ (-126 : ℤ) ≤ |bf16.rat (bf16.daz 0x0080) * (2 : ℚ) ^ ⌊bf16.rat (bf16.daz 0x0000)⌋| := by decide +kernel

theorem witness_Bf16FmaResults : ∀ i ∈ ([
      .vfmadd132bf16 .v128 ⟨1, 2, xmm3, 0, false⟩, .vfmadd213bf16 .v128 ⟨1, 2, xmm3, 0, false⟩,
      .vfmadd231bf16 .v128 ⟨1, 2, xmm3, 0, false⟩, .vfmsub132bf16 .v128 ⟨1, 2, xmm3, 0, false⟩,
      .vfmsub213bf16 .v128 ⟨1, 2, xmm3, 0, false⟩, .vfmsub231bf16 .v128 ⟨1, 2, xmm3, 0, false⟩,
      .vfnmadd132bf16 .v128 ⟨1, 2, xmm3, 0, false⟩, .vfnmadd213bf16 .v128 ⟨1, 2, xmm3, 0, false⟩,
      .vfnmadd231bf16 .v128 ⟨1, 2, xmm3, 0, false⟩, .vfnmsub132bf16 .v128 ⟨1, 2, xmm3, 0, false⟩,
      .vfnmsub213bf16 .v128 ⟨1, 2, xmm3, 0, false⟩, .vfnmsub231bf16 .v128 ⟨1, 2, xmm3, 0, false⟩] : List Instr),
    Runs i (st 0x1F80 0x4000 0x4040 0x3F80) 0x3F80 :=
  runs_all _ _ _ _ _ (by decide +kernel)

theorem witness_Bf16UnaryResults : ∀ i ∈ ([
      .vsqrtbf16 .v256 ⟨1, xmm3, 0, false⟩, .vgetexpbf16 .v256 ⟨1, xmm3, 0, false⟩,
      .vrcpbf16 .v256 ⟨1, xmm3, 0, false⟩, .vrsqrtbf16 .v256 ⟨1, xmm3, 0, false⟩,
      .vgetmantbf16 .v256 ⟨1, xmm3, 0, false⟩ 0x21, .vreducebf16 .v256 ⟨1, xmm3, 0, false⟩ 0x21,
      .vrndscalebf16 .v256 ⟨1, xmm3, 0, false⟩ 0x21] : List Instr),
    Runs i (st 0x1F80 0x4000 0x4040 0x3F80) 0x3F80 :=
  runs_all _ _ _ _ _ (by decide +kernel)

/-- The operands of the clauses on VGETEXPBF16 and VGETMANTBF16: the least and greatest exponents and exponent 0; zeros,
infinities, and numbers of both signs. -/
theorem witness_Bf16UnaryResults_values :
    (∀ p ∈ ([(0x0080, -126), (0x7F7F, 127), (0xBFFF, 0)] : List (Nat × ℤ)), bf16.isFinite p.1 = true ∧ bf16.exp p.1 ≠ 0 ∧
      (2 : ℚ) ^ p.2 ≤ |bf16.rat p.1| ∧ |bf16.rat p.1| < (2 : ℚ) ^ (p.2 + 1)) ∧
    bf16.isNaN 0xFFA0 = true ∧ bf16.isInf 0xFF80 = true ∧ bf16.exp 0x807F = 0 ∧
    (bf16.isZero (bf16.daz 0x007F) = true ∧ bf16.sign 0x007F = false ∧ bf16.isInf (bf16.daz 0x7F80) = true) ∧
    (bf16.isZero (bf16.daz 0x807F) = true ∧ bf16.sign 0x807F = true ∧ bf16.isInf (bf16.daz 0xFF80) = true) ∧
    (bf16.isFinite (bf16.daz 0xBFFF) = true ∧ bf16.isZero (bf16.daz 0xBFFF) = false ∧ bf16.sign 0xBFFF = true) ∧
    (∀ n : Fin 4, (BitVec.ofNat 8 n).extractLsb' 0 2 = BitVec.ofNat 2 n) := by decide +kernel

theorem witness_OpmaskResults : ∀ i ∈ ([
      .vcmpbf16 .v128 ⟨1, 2, xmm3, 0⟩ 31, .vfpclassbf16 .v512 ⟨1, xmm3, 1⟩ 0xFF] : List Instr),
    Runs i (st 0x1F80 0x4000 0x4040 0x3F80) 0x3F80 :=
  runs_all _ _ _ _ _ (by decide +kernel)

/-- A NaN; a greater, a less and an equal first operand (-0 and +0, two infinities). -/
theorem witness_Vcomisbf16Result :
    (∀ x ∈ [0x7FC0, 0x4000, 0x3F80, 0x8000, 0x7F80], Runs (.vcomisbf16 ⟨1, xmm3⟩) (st 0x1F80 0x3F81 0 x) x) ∧
    bf16.isNaN 0x7FC0 = true ∧ bf16.valueLt 0x3F80 0x3F81 ∧ bf16.valueLt 0x3F81 0x7F80 ∧ ¬ bf16.valueLt 0x8000 0x0000 ∧
    ¬ bf16.valueLt 0x0000 0x8000 ∧ ¬ bf16.valueLt 0x7F80 0x7F80 := by
  refine ⟨fun x _ => runs_st _ _ _ _ _ rfl rfl, ?_⟩
  unfold Fmt.valueLt
  decide +kernel

/-- Every relation with the masks set, and an unmasked IE and DE. -/
theorem witness_ScalarCompareResults :
    (∀ i ∈ ([.vcomxsd ⟨1, xmm3⟩, .vcomxsh ⟨1, xmm3⟩, .vcomxss ⟨1, xmm3⟩, .vucomxsd ⟨1, xmm3⟩, .vucomxsh ⟨1, xmm3⟩,
      .vucomxss ⟨1, xmm3⟩] : List Instr), Runs i (st 0x1F80 1 0 0) 0) ∧
    (fp32.rel 0x7FC00000 0 = .un ∧ fp32.rel 1 0 = .gt ∧ fp32.rel 0xFF800000 0xFF7FFFFF = .lt ∧
      fp32.rel 0x80000000 0 = .eq) ∧
    Quiet (st 0x1F80 1 0 0) xmm3.loc 2 ∧ Quiet (st 0 1 0 0) sae3.loc 1 ∧ ¬ Quiet (st 0 1 0 0) xmm3.loc 2 :=
  ⟨runs_all _ _ _ _ _ (by decide +kernel), by decide +kernel, quiet_masked _ _ _ _ _, .inl rfl,
    loud_unmasked _ _ _ _ _ rfl (by decide)⟩

/-- The flag sets exist by `collected_union`; no mask is set. -/
theorem witness_Fp8Results : ∀ i ∈ ([
      .vcvtph2bf8 .v128 ⟨1, xmm3, 0, false⟩, .vcvtph2bf8s .v128 ⟨1, xmm3, 0, false⟩,
      .vcvtph2hf8 .v128 ⟨1, xmm3, 0, false⟩, .vcvtph2hf8s .v128 ⟨1, xmm3, 0, false⟩,
      .vcvt2ph2bf8 .v128 ⟨1, 2, xmm3, 0, false⟩, .vcvt2ph2bf8s .v128 ⟨1, 2, xmm3, 0, false⟩,
      .vcvt2ph2hf8 .v128 ⟨1, 2, xmm3, 0, false⟩, .vcvt2ph2hf8s .v128 ⟨1, 2, xmm3, 0, false⟩,
      .vcvtbiasph2bf8 .v128 ⟨1, 2, xmm3, 0, false⟩, .vcvtbiasph2bf8s .v128 ⟨1, 2, xmm3, 0, false⟩,
      .vcvtbiasph2hf8 .v128 ⟨1, 2, xmm3, 0, false⟩, .vcvtbiasph2hf8s .v128 ⟨1, 2, xmm3, 0, false⟩] : List Instr),
    Runs i (st 0 0x4000 0x4040 0x3F80) 0x3F80 :=
  runs_all _ _ _ _ _ (by decide +kernel)

/-- Bytes with DE, masked and not. -/
theorem witness_Hf8ToFp16Results :
    Runs (.vcvthf82ph .v128 ⟨1, xmm3, 0, false⟩) (st 0x1F80 0 0 0x0108) 0x0108 ∧
    Quiet (st 0x1F80 0 0 0x0108) xmm3.loc 2 ∧
    Runs (.vcvthf82ph .v128 ⟨1, xmm3, 0, false⟩) (st 0 0 0 0x0108) 0x0108 ∧
    ¬ Quiet (st 0 0 0 0x0108) xmm3.loc (collectFlags ((st 0 0 0 0x0108).active 0) (fun j =>
      if (lane 8 j (0x0108 : Zmm)).extractLsb' 3 4 = 0 ∧
        (lane 8 j (0x0108 : Zmm)).extractLsb' 0 3 ≠ 0 then 2 else 0) 8) :=
  ⟨runs_st _ _ _ _ _ rfl rfl, quiet_masked _ _ _ _ _, runs_st _ _ _ _ _ rfl rfl,
    loud_unmasked _ _ _ _ _ rfl (by decide +kernel)⟩

/-- Rounding by MXCSR.RC and embedded. -/
theorem witness_Vcvt2ps2phxResult :
    Runs (.vcvt2ps2phx .v128 ⟨1, 2, xmm3, 0, false⟩) (st 0 0 0 0x3F801000) 0x3F801000 ∧
    Runs (.vcvt2ps2phx .v512 ⟨1, 2, er3, 0, false⟩) (st 0 0 0 0x3F801000) 0x3F801000 :=
  ⟨runs_st _ _ _ _ _ rfl rfl, runs_st _ _ _ _ _ rfl rfl⟩

/-- The clauses on a value: an infinity, both kinds of NaN, a zero,
  a denormal; 65519 and 65520 under both directions, and a
number that is tiny and inexact. -/
theorem witness_Vcvt2ps2phxResult_values :
    fp32.isInf 0xFF800000 = true ∧ fp32.isNaN 0x7F800001 = true ∧ fp32.isSNaN 0x7FC00000 = false ∧
    fp32.isZero 0x80000000 = true ∧ fp32.isDenormal 0x807FFFFF = true ∧
    (∀ x ∈ [0x477FEF00, 0x477FF000], fp32.isFinite x = true ∧ fp32.isZero x = false ∧ fp32.isDenormal x = false ∧
      (2 : ℚ) ^ (15 : ℤ) ≤ |fp32.rat x| ∧ |fp32.rat x| < (2 : ℚ) ^ ((15 : ℤ) + 1)) ∧
    |(RoundMode.rne.toIntegral (fp32.rat 0x477FEF00 / 2 ^ 5) : ℚ) * 2 ^ 5| ≤ 65504 ∧
    65504 < |(RoundMode.rne.toIntegral (fp32.rat 0x477FF000 / 2 ^ 5) : ℚ) * 2 ^ 5| ∧
    |(RoundMode.rtz.toIntegral (fp32.rat 0x477FF000 / 2 ^ 5) : ℚ) * 2 ^ 5| ≤ 65504 ∧
    ((2 : ℚ) ^ (-15 : ℤ) ≤ |fp32.rat 0x38000001| ∧ |fp32.rat 0x38000001| < (2 : ℚ) ^ ((-15 : ℤ) + 1)) := by decide +kernel

theorem witness_ByteDotResults : ∀ i ∈ ([
      .vpdpbssd .v128 ⟨1, 2, xmm3, 0, false⟩, .vpdpbssds .v128 ⟨1, 2, xmm3, 0, false⟩,
      .vpdpbsud .v128 ⟨1, 2, xmm3, 0, false⟩, .vpdpbsuds .v128 ⟨1, 2, xmm3, 0, false⟩,
      .vpdpbuud .v128 ⟨1, 2, xmm3, 0, false⟩, .vpdpbuuds .v128 ⟨1, 2, xmm3, 0, false⟩] : List Instr),
    Runs i (st 0x1F80 0x4000 0x4040 0x3F80) 0x3F80 :=
  runs_all _ _ _ _ _ (by decide +kernel)

theorem witness_WordDotResults : ∀ i ∈ ([
      .vpdpwsud .v128 ⟨1, 2, xmm3, 0, false⟩, .vpdpwsuds .v128 ⟨1, 2, xmm3, 0, false⟩,
      .vpdpwusd .v128 ⟨1, 2, xmm3, 0, false⟩, .vpdpwusds .v128 ⟨1, 2, xmm3, 0, false⟩,
      .vpdpwuud .v128 ⟨1, 2, xmm3, 0, false⟩, .vpdpwuuds .v128 ⟨1, 2, xmm3, 0, false⟩] : List Instr),
    Runs i (st 0x1F80 0x4000 0x4040 0x3F80) 0x3F80 :=
  runs_all _ _ _ _ _ (by decide +kernel)

theorem witness_VdphphsResult : ∀ i ∈ ([
      .vdphphs .v512 ⟨1, 2, xmm3, 0, false⟩] : List Instr),
    Runs i (st 0x1F80 0x4000 0x4040 0x3F80) 0x3F80 :=
  runs_all _ _ _ _ _ (by decide +kernel)

theorem witness_VmpsadbwResult : ∀ i ∈ ([
      .vmpsadbw .v512 ⟨1, 2, xmm3, 0, false⟩ 0x2A] : List Instr),
    Runs i (st 0x1F80 0x4000 0x4040 0x3F80) 0x3F80 :=
  runs_all _ _ _ _ _ (by decide +kernel)

/-- Every form, with all flags masked; an SNaN with IE unmasked, packed and scalar. -/
theorem witness_MinmaxResults :
    (∀ i ∈ ([.vminmaxbf16 .v128 ⟨1, 2, xmm3, 0, false⟩ 4, .vminmaxph .v128 ⟨1, 2, xmm3, 0, false⟩ 4,
      .vminmaxps .v128 ⟨1, 2, xmm3, 0, false⟩ 4, .vminmaxpd .v128 ⟨1, 2, xmm3, 0, false⟩ 4,
      .vminmaxsh ⟨1, 2, xmm3, 0, false⟩ 4, .vminmaxss ⟨1, 2, xmm3, 1, true⟩ 4, .vminmaxsd ⟨1, 2, xmm3, 1,
        false⟩ 4] : List Instr),
        Runs i (st 0x1F80 0 0 0x7FA00000) 0x7FA00000) ∧
    (∀ F, Quiet (st 0x1F80 0 0 0x7FA00000) xmm3.loc F) ∧
    Runs (.vminmaxps .v128 ⟨1, 2, xmm3, 0, false⟩ 4) (st 0 0 0 0x7FA00000) 0x7FA00000 ∧
    ¬ Quiet (st 0 0 0 0x7FA00000) xmm3.loc (collectFlags ((st 0 0 0 0x7FA00000).active 0) (fun j =>
      (minmax fp32 4 false true (lane 32 j ((st 0 0 0 0x7FA00000).vec 2)).toNat (lane 32 j (0x7FA00000 : Zmm)).toNat).2) 4) ∧
    ¬ Quiet (st 0 0 0 0x7FA00000) xmm3.loc (minmax fp32 4 false true 0 0x7FA00000).2 :=
  ⟨runs_all _ _ _ _ _ (by decide +kernel), fun _ => quiet_masked _ _ _ _ _, runs_st _ _ _ _ _ rfl rfl,
    loud_unmasked _ _ _ _ _ rfl (by decide +kernel), loud_unmasked _ _ _ _ _ rfl (by decide +kernel)⟩

theorem witness_SaturatingBf16Results : ∀ i ∈ ([
      .vcvtbf162ibs .v128 ⟨1, xmm3, 0, false⟩, .vcvtbf162iubs .v128 ⟨1, xmm3, 0, false⟩,
      .vcvttbf162ibs .v128 ⟨1, xmm3, 0, false⟩, .vcvttbf162iubs .v128 ⟨1, xmm3, 0, false⟩] : List Instr),
    Runs i (st 0x1F80 0x4000 0x4040 0x3F80) 0x3F80 :=
  runs_all _ _ _ _ _ (by decide +kernel)

/-- With all flags masked `quiet_masked` gives the first clause. -/
theorem witness_SaturatingPackedResults : ∀ i ∈ ([
      .vcvtph2ibs .v128 ⟨1, xmm3, 0, false⟩, .vcvtph2iubs .v128 ⟨1, xmm3, 0, false⟩,
      .vcvttph2ibs .v128 ⟨1, xmm3, 0, false⟩, .vcvttph2iubs .v128 ⟨1, xmm3, 0, false⟩,
      .vcvtps2ibs .v128 ⟨1, xmm3, 0, false⟩, .vcvtps2iubs .v128 ⟨1, xmm3, 0, false⟩,
      .vcvttps2ibs .v128 ⟨1, xmm3, 0, false⟩, .vcvttps2iubs .v128 ⟨1, xmm3, 0, false⟩,
      .vcvttpd2dqs .v128 ⟨1, xmm3, 0, false⟩, .vcvttpd2qqs .v128 ⟨1, xmm3, 0, false⟩,
      .vcvttpd2udqs .v128 ⟨1, xmm3, 0, false⟩, .vcvttpd2uqqs .v128 ⟨1, xmm3, 0, false⟩,
      .vcvttps2dqs .v128 ⟨1, xmm3, 0, false⟩, .vcvttps2qqs .v128 ⟨1, xmm3, 0, false⟩,
      .vcvttps2udqs .v128 ⟨1, xmm3, 0, false⟩, .vcvttps2uqqs .v128 ⟨1, xmm3, 0, false⟩] : List Instr),
    Runs i (st 0x1F80 0x4000 0x4040 0x7F800000) 0x7F800000 :=
  runs_all _ _ _ _ _ (by decide +kernel)

/-- An infinity with IE unmasked, for FP32, FP16 and FP64 sources. -/
theorem witness_SaturatingPackedResults_raise :
    Runs (.vcvttps2dqs .v128 ⟨1, xmm3, 0, false⟩) (st 0 0 0 0x7F800000) 0x7F800000 ∧
    ¬ Quiet (st 0 0 0 0x7F800000) xmm3.loc (collectFlags ((st 0 0 0 0x7F800000).active 0)
      (fun j => (satCvt fp32 (lane 32 j (0x7F800000 : Zmm)).toNat true 32 .rtz).2) 4) ∧
    ¬ Quiet (st 0 0 0 0x7C00) xmm3.loc (collectFlags ((st 0 0 0 0x7C00).active 0)
      (fun j => (satCvt fp16 (lane 16 j (0x7C00 : Zmm)).toNat true 8 .rne).2) 8) ∧
    ¬ Quiet (st 0 0 0 0x7FF0000000000000) xmm3.loc (collectFlags ((st 0 0 0 0x7FF0000000000000).active 0)
      (fun j => (satCvt fp64 (lane 64 j (0x7FF0000000000000 : Zmm)).toNat true 64 .rtz).2) 2) :=
  ⟨runs_st _ _ _ _ _ rfl rfl, loud_unmasked _ _ _ _ _ rfl (by decide +kernel),
    loud_unmasked _ _ _ _ _ rfl (by decide +kernel),
    loud_unmasked _ _ _ _ _ rfl (by decide +kernel)⟩

/-- With all flags masked `quiet_masked` gives the first clause. -/
theorem witness_SaturatingScalarResults : ∀ i ∈ ([
      .vcvttsd2sisR32 ⟨1, xmm3⟩, .vcvttsd2sisR64 ⟨1, xmm3⟩, .vcvttsd2usisR32 ⟨1, xmm3⟩, .vcvttsd2usisR64 ⟨1, xmm3⟩,
      .vcvttss2sisR32 ⟨1, xmm3⟩, .vcvttss2sisR64 ⟨1, xmm3⟩, .vcvttss2usisR32 ⟨1, xmm3⟩, .vcvttss2usisR64 ⟨1,
        xmm3⟩] : List Instr),
    Runs i (st 0x1F80 0x4000 0x4040 0x7F800000) 0x7F800000 :=
  runs_all _ _ _ _ _ (by decide +kernel)

theorem witness_SaturatingScalarResults_raise :
    Runs (.vcvttss2sisR32 ⟨1, xmm3⟩) (st 0 0 0 0x7F800000) 0x7F800000 ∧
    ¬ Quiet (st 0 0 0 0x7F800000) xmm3.loc (satCvt fp32 0x7F800000 true 32 .rtz).2 ∧
    ¬ Quiet (st 0 0 0 0x7FF0000000000000) xmm3.loc (satCvt fp64 0x7FF0000000000000 false 64 .rtz).2 :=
  ⟨runs_st _ _ _ _ _ rfl rfl, loud_unmasked _ _ _ _ _ rfl (by decide +kernel),
    loud_unmasked _ _ _ _ _ rfl (by decide +kernel)⟩

theorem witness_LoadResults : ∀ i ∈ ([
      .vmovdLoad ⟨1, xmm3⟩, .vmovwLoad ⟨1, xmm3⟩] : List Instr),
    Runs i (st 0x1F80 0x4000 0x4040 0x3F80) 0x3F80 :=
  runs_all _ _ _ _ _ (by decide +kernel)

/-- A register; the last four bytes before the region that is absent, aligned, with alignment checking on; the four
addresses differ. -/
theorem witness_StoreResults :
    Ready (st 0 1 0 0) .vmovdStore ∧ Fits (st 0 1 0 0) (.vmovdStore ⟨1, xmm3⟩) ∧ xmm3.loc.register = some 3 ∧
    (mmAc 0x1FFC).undefinedHere .avx10v2 = false ∧ (mmAc 0x1FFC).ts = false ∧
    Fits (mmAc 0x1FFC) (.vmovdStore ⟨1, atRax⟩) ∧ memWf (mmAc 0x1FFC).mem = true ∧
    (∃ m ∈ memoryAccess (.vmovdStore ⟨1, atRax⟩) (mmAc 0x1FFC), m.ea = 0x1FFC ∧
      (∀ k ∈ List.range 4, (m.kindAt (mmAc 0x1FFC) k).isMapped = true) ∧ m.ea.toNat % 4 = 0 ∧
      (List.range 4).map (fun k => (mmAc 0x1FFC).physical m k) =
        [0x1FFC, 0x1FFD, 0x1FFE, 0x1FFF]) :=
  ⟨ready_st _ _ _ _ _, (runs_st 0 1 0 0 (.vmovdStore ⟨1, xmm3⟩) rfl rfl).fits, rfl, by decide, by decide,
    by unfold Fits; decide, by decide,
    _, rfl, by decide +kernel⟩

/-! ### Numbers -/

/-- Finite operands with nonzero results: the largest numbers, the least normal ones, a denormal beside a number. -/
theorem witness_SumsProductsRounded :
    ∀ f ∈ [bf16, fp32], ∀ a ∈ [f.maxFinite false, f.pack true 1 0, f.one false],
      a < 2 ^ (1 + f.ebits + f.fbits) ∧ f.isNaN a = false ∧ f.isFinite a = true ∧ f.isFinite 1 = true ∧
      f.rat (f.daz a) + f.rat (f.daz 1) ≠ 0 ∧ f.rat (f.daz a) - f.rat (f.daz 1) ≠ 0 ∧
        f.rat (f.daz a) * f.rat (f.daz a) ≠ 0 ∧
      f.rat (f.daz a) * f.rat (f.daz a) + f.rat (f.daz 1) ≠ 0 := by decide +kernel

/-- Zero results: a cancellation and two negative zeros; infinite operands with a number,
  with an infinity of the same sign
and as an addend. -/
theorem witness_SumsProductsRounded_special :
    ∀ f ∈ [bf16, fp32],
      (f.rat (f.daz (f.one false)) + f.rat (f.daz (f.one true)) = 0 ∧ f.rat (f.daz (f.zero true)) + f.rat (f.daz 1) = 0) ∧
      f.rat (f.daz (f.one false)) - f.rat (f.daz (f.one false)) = 0 ∧
      f.rat (f.daz (f.one false)) * f.rat (f.daz (f.zero true)) = 0 ∧
      f.rat (f.daz (f.one true)) * f.rat (f.daz (f.one false)) + f.rat (f.daz (f.one false)) = 0 ∧
      (f.inf true < 2 ^ (1 + f.ebits + f.fbits) ∧ f.isInf (f.inf true) = true ∧ f.isNaN (f.inf true) = false) ∧
      f.isZero (f.daz (f.pack true 1 0)) = false ∧ f.isInf (f.pack true 1 0) = false ∧
      (f.sign (f.inf true) ^^ f.sign (f.inf true) ^^ true) = f.sign (f.inf true) := by decide +kernel

/-- The largest and the least number and 1; a denormal and zeros; infinities. -/
theorem witness_QuotientsRootsRounded :
    (∀ a ∈ [0x7F7F, 0x0080, 0x3F80], bf16.isNaN a = false ∧ bf16.isFinite a = true ∧ 0 < bf16.rat (bf16.daz a) ∧
      bf16.rat (bf16.daz a) ≠ 0) ∧
    (∀ a ∈ [0x8000, 0x007F], bf16.isNaN a = false ∧ bf16.isFinite a = true ∧ bf16.rat (bf16.daz a) = 0) ∧
    (∀ a ∈ [0x7F80, 0xFF80], bf16.isNaN a = false ∧ bf16.isInf a = true) ∧ bf16.sign 0x7F80 = false := by
  decide +kernel

/-- NaNs, zeros (a denormal among them), infinities, a negative number, and infinities of opposite signs in a sum. -/
theorem witness_SpecialOperands :
    bf16.isNaN 0x7FA0 = true ∧ bf16.isNaN 0xFFFF = true ∧ bf16.isNaN 0x3F80 = false ∧
    bf16.isInf 0x7F80 = true ∧ bf16.isInf 0xFF80 = true ∧ bf16.sign 0x7F80 ≠ bf16.sign 0xFF80 ∧
    bf16.isZero (bf16.daz 0x8000) = true ∧ bf16.isZero (bf16.daz 0x007F) = true ∧
    (bf16.isNaN 0x8080 = false ∧ bf16.isZero (bf16.daz 0x8080) = false ∧ bf16.sign 0x8080 = true) ∧
    (bf16.isNaN 0x0080 = false ∧ bf16.isZero (bf16.daz 0x0080) = false ∧
      (bf16.sign 0x7F80 ^^ bf16.sign 0x0080 ^^ false) ≠ (bf16.sign 0xFF80 ^^ false)) := by decide +kernel

theorem witness_RelationOfValues :
    ∀ f ∈ [bf16, fp16, fp32, fp64], f.inf true < 2 ^ (1 + f.ebits + f.fbits) ∧ f.isNaN (f.inf true) = false ∧
      f.isNaN (f.quiet (f.inf true)) = true := by decide +kernel

/-- A NaN, a zero and a denormal, an infinity; 2^126 and the next number; a negative number; 4 = 2^2. -/
theorem witness_ApproximationBounds :
    bf16.isNaN 0x7FC0 = true ∧ bf16.exp 0x8000 = 0 ∧ bf16.exp 0x007F = 0 ∧ bf16.isInf 0xFF80 = true ∧
    (bf16.isFinite 0x7E80 = true ∧ bf16.exp 0x7E80 ≠ 0 ∧ |bf16.rat 0x7E80| ≤ (2 : ℚ) ^ 126 ∧ bf16.frac 0x7E80 = 0) ∧
    (bf16.isFinite 0xFE81 = true ∧ (2 : ℚ) ^ 126 < |bf16.rat 0xFE81| ∧ bf16.sign 0xFE81 = true) ∧
    bf16.sign 0x4080 = false ∧ bf16.rat 0x4080 = 2 ^ (2 * (1 : ℤ)) := by decide +kernel

/-- A NaN, an infinity; a number that rounds to 0, one that is a multiple, and a denormal. -/
theorem witness_RoundAndReduceExact :
    bf16.isNaN 0x7FA0 = true ∧ bf16.isInf 0xFF80 = true ∧
    (bf16.isFinite 0xBF00 = true ∧ (RoundMode.rne.toIntegral (1 * bf16.rat (bf16.daz 0xBF00)) : ℚ) / 1 = 0) ∧
    (bf16.isFinite 0x4300 = true ∧
      bf16.rat (bf16.daz 0x4300) - (RoundMode.rne.toIntegral (1 * bf16.rat (bf16.daz 0x4300)) : ℚ) / 1 = 0) ∧
    bf16.isFinite 0x8001 = true := by decide +kernel

/-- A NaN, an infinity; the ties 61440 and 464 and the next number; a bias of 255 that carries out of range and one that
does not. -/
theorem witness_Fp8Saturates :
    fp16.isNaN 0xFC01 = true ∧ fp16.isInf 0xFC00 = true ∧
    (∀ x ∈ [0x7B80, 0x7B7F, 0x5F40, 0xDF41, 0x0001], fp16.isFinite x = true ∧ x < 2 ^ 16) ∧
    (fp16ToFp8 0x7B80 .bf8 true).overflow = true ∧ (fp16ToFp8 0x7B7F .bf8 true).overflow = false ∧
    (fp16ToFp8 0x5F40 .hf8 false).overflow = false ∧ (fp16ToFp8 0xDF41 .hf8 false).overflow = true ∧
    (fp16ToFp8Bias 0x7B01 255 .bf8 true).overflow = true ∧ (fp16ToFp8Bias 0x7B00 255 .bf8 true).overflow = false ∧
    (fp16ToFp8Bias 0x5F01 254 .hf8 true).overflow = true ∧ (fp16ToFp8Bias 0x0001 255 .hf8 true).overflow = false := by
  decide +kernel

/-- The rows of Tables 11.3 and 11.4: two signaling NaNs, one, none; a number beside each. -/
theorem witness_MinmaxNaN :
    ∀ f ∈ [bf16, fp16, fp32, fp64],
      f.isSNaN (f.inf true + 1) = true ∧ f.isQNaN (f.quiet (f.inf false)) = true ∧ f.isNaN (f.one false) = false ∧
      f.inf true + 1 < 2 ^ (1 + f.ebits + f.fbits) ∧ (0x10#8).getLsbD 4 = true ∧ (0x0F#8).getLsbD 4 = false := by
  decide +kernel

/-- Zeros of both signs, infinities and denormals; each operation and sign control. -/
theorem witness_MinmaxNumbers :
    (∀ f ∈ [bf16, fp16, fp32, fp64], f.zero true < 2 ^ (1 + f.ebits + f.fbits) ∧ f.isNaN (f.zero true) = false ∧
      f.isNaN (f.inf true) = false ∧ f.isNaN 1 = false ∧ f.isDenormal 1 = true ∧ f.isDenormal (f.daz 1) = false) ∧
    ∀ n : Fin 4, (BitVec.ofNat 8 (4 * n)).extractLsb' 2 2 = BitVec.ofNat 2 n ∧
      (BitVec.ofNat 8 n).extractLsb' 0 2 = BitVec.ofNat 2 n := by decide +kernel

theorem witness_SatConvertExact :
    ∀ f ∈ [bf16, fp16, fp32, fp64], f.isNaN (f.quiet (f.inf true)) = true ∧ f.isInf (f.inf true) = true ∧
      f.isFinite (f.maxFinite true) = true ∧ f.isFinite 1 = true ∧ f.maxFinite true < 2 ^ (1 + f.ebits + f.fbits) ∧
      64 ∈ [8, 32, 64] := by decide +kernel

end Sys2Proof.Tests
end

section
/-! PROOFS. What a completed instruction leaves alone: rules for the stores and for every effect, the inversion of a completed
run, and the statements on the invariant, the pc, EFLAGS, the registers and the upper bits (spec/10_state.md). -/

namespace Sys2Proof

/-- r/m is a register or an address. -/
theorem Loc.register_or_addr (l : Loc) : (∃ r, l.register = some r) ∨ ∃ a, l.register = none ∧ l.addr = some a := by
  cases l with
  | reg r | regEr r _ | regSae r => exact .inl ⟨r, rfl⟩
  | mem a | bcst a => exact .inr ⟨a, rfl, rfl⟩

/-- The forms that write EFLAGS are the seven compares (spec/10_state.md R33). -/
theorem Op.mem_of_target_status {op : Op} (h : op.target = .status) :
    op ∈ [.vcomisbf16, .vcomxsd, .vcomxsh, .vcomxss, .vucomxsd, .vucomxsh, .vucomxss] := by
  revert h
  cases op <;> decide

end Sys2Proof

namespace Sys2Proof.Machine

/-! ## Stores -/

/-- A store to a register writes the whole register. -/
theorem State.stored_register (s : State) (op : Op) {rm : RM} {r : VReg} (h : rm.loc.register = some r) (w : Nat)
    (v : Zmm) : s.stored op rm w v = s.setVec r ((lane w 0 v).setWidth 512) := by
  unfold State.stored
  cases hl : rm.loc with
  | reg q | regEr q _ | regSae q => rw [hl] at h; cases h; rfl
  | mem a | bcst a => rw [hl] at h; cases h

/-- A store to memory writes bytes. -/
theorem State.stored_memory (s : State) (op : Op) {rm : RM} {a : Addr} (h : rm.loc.addr = some a) (w : Nat)
    (v : Zmm) : s.stored op rm w v = s.storeBytes (s.destAccess op rm a) v (w / 8) := by
  unfold State.stored
  cases hl : rm.loc with
  | reg q | regEr q _ | regSae q => rw [hl] at h; cases h
  | mem b | bcst b => rw [hl] at h; cases h; rfl

/-- A store changes vector registers and memory only. -/
theorem State.stored_frame (s : State) (op : Op) (rm : RM) (w : Nat) (v : Zmm) :
    s.stored op rm w v = { s with zmm := (s.stored op rm w v).zmm, mem := (s.stored op rm w v).mem } := by
  obtain ⟨r, hr⟩ | ⟨a, -, ha⟩ := rm.loc.register_or_addr
  · rw [s.stored_register op hr]; rfl
  · rw [s.stored_memory op ha, State.storeBytes_eq]

theorem State.memWf_stored {s : State} (h : memWf s.mem = true) (op : Op) (rm : RM) (w : Nat) (v : Zmm) :
    memWf (s.stored op rm w v).mem = true := by
  obtain ⟨r, hr⟩ | ⟨a, -, ha⟩ := rm.loc.register_or_addr
  · rw [s.stored_register op hr]; exact h
  · rw [s.stored_memory op ha]; exact State.memWf_storeBytes h _ _ _

/-- A store leaves every vector register but the one r/m names. -/
theorem State.vec_stored_other (s : State) (op : Op) {rm : RM} {q : VReg} (h : rm.loc.register ≠ some q) (w : Nat)
    (v : Zmm) : (s.stored op rm w v).vec q = s.vec q := by
  obtain ⟨r, hr⟩ | ⟨a, -, ha⟩ := rm.loc.register_or_addr
  · rw [s.stored_register op hr]
    exact State.vec_setVec_other s r q _ fun e => h (e ▸ hr)
  · rw [s.stored_memory op ha, State.storeBytes_eq]; rfl

/-- The register a store writes is zero above the bits stored. -/
theorem State.getLsbD_vec_stored (s : State) (op : Op) {rm : RM} {r : VReg} (h : rm.loc.register = some r) (w : Nat)
    (v : Zmm) {b : Nat} (hb : w ≤ b) : ((s.stored op rm w v).vec r).getLsbD b = false := by
  rw [s.stored_register op h, State.vec_setVec_same, BitVec.getLsbD_setWidth, BitVec.getLsbD_of_ge _ b hb, Bool.and_false]

/-! ## What a completed instruction has written -/

section
variable {p : Parts} {s u : State} {F : Flags}

/-- A completed instruction writes registers, flags and memory, and no control state. -/
theorem Effect.frame (h : Effect p s F u) :
    u = { s with zmm := u.zmm, k := u.k, gpr := u.gpr, mxcsr := u.mxcsr, eflags := u.eflags, mem := u.mem } := by
  cases h with
  | vector | opmask | status | general => rfl
  | store => rw [State.stored_frame]

/-- The flags are the only bits of MXCSR that are written. -/
theorem Effect.mxcsr_eq (h : Effect p s F u) : u.mxcsr = s.mxcsr ||| F.setWidth 32 := by
  cases h with
  | vector | status | general => rfl
  | opmask v ht hF => simp [hF]
  | store ht hF => rw [State.stored_frame]; simp [hF]

theorem Effect.memWf (h : Effect p s F u) (hm : memWf s.mem = true) : memWf u.mem = true := by
  cases h with
  | vector | opmask | status | general => exact hm
  | store => exact State.memWf_stored hm _ _ _ _

/-- Only a compare writes EFLAGS. -/
theorem Effect.eflags_eq (h : Effect p s F u) (ht : p.op.target ≠ .status) : u.eflags = s.eflags := by
  cases h with
  | vector | opmask | general => rfl
  | status _ hs => exact absurd hs ht
  | store => rw [State.stored_frame]

/-- Of EFLAGS only the six status flags are written. -/
theorem Effect.eflags_frame (h : Effect p s F u) :
    u.eflags &&& ~~~statusMask = s.eflags &&& ~~~statusMask := by
  by_cases ht : p.op.target = .status
  · cases h with
    | status b _ hb => exact setStatus_frame _ b hb
    | vector _ h' | opmask _ h' | general _ h' | store h' => rw [ht] at h'; cases h'
  · rw [h.eflags_eq ht]

theorem Effect.pc_eq (h : Effect p s F u) : u.pc = s.pc := by
  rw [h.frame]

/-- The mode does not change, so the address width does not. -/
theorem Effect.pcBits_eq (h : Effect p s F u) : u.pcBits = s.pcBits := by
  rw [h.frame]; rfl

end

/-- The vector register that an effect does not name stays (spec/10_state.md R23). -/
theorem Effect.vec_other {i : Instr} {s u : State} {F : Flags} {r : VReg} (h : Effect i.parts s F u)
    (hr : i.vectorDest ≠ some r) : u.vec r = s.vec r := by
  cases h with
  | opmask | status | general => rfl
  | vector v ht =>
    rw [Instr.vectorDest, Instr.op, ht] at hr
    exact State.vec_setVec_other _ _ _ _ fun e => hr (e ▸ rfl)
  | store ht =>
    rw [Instr.vectorDest, Instr.op, ht] at hr
    exact State.vec_stored_other s _ hr _ _

theorem Effect.opmask_other {i : Instr} {s u : State} {F : Flags} {r : KReg} (h : Effect i.parts s F u)
    (hr : i.opmaskDest ≠ some r) : u.opmask r = s.opmask r := by
  cases h with
  | vector | status | general => rfl
  | opmask v ht =>
    rw [Instr.opmaskDest, Instr.op, if_pos ht] at hr
    exact State.opmask_setOpmask_other _ _ _ _ fun e => hr (e ▸ rfl)
  | store => rw [State.stored_frame]; rfl

theorem Effect.general_other {i : Instr} {s u : State} {F : Flags} {r : GReg} (h : Effect i.parts s F u)
    (hr : i.generalDest ≠ some r) : u.general r = s.general r := by
  cases h with
  | vector | status | opmask => rfl
  | general v ht =>
    rw [Instr.generalDest, Instr.op, if_pos ht] at hr
    exact State.general_setGeneral_other _ _ _ _ fun e => hr (e ▸ rfl)
  | store => rw [State.stored_frame]; rfl

/-- A vector destination is zero above the bits the form fills (spec/10_state.md R21). -/
theorem Effect.vec_above {i : Instr} {s u : State} {F : Flags} {r : VReg} {b : Nat} (h : Effect i.parts s F u)
    (hr : i.vectorDest = some r) (hb : i.op.destBits i.parts.vl ≤ b) : (u.vec r).getLsbD b = false := by
  cases h with
  | vector v ht hv =>
    rw [Instr.vectorDest, Instr.op, ht] at hr
    cases hr
    rw [State.vec_setVec_same]
    exact hv b hb
  | store ht =>
    rw [Instr.vectorDest, Instr.op, ht] at hr
    exact State.getLsbD_vec_stored s _ hr _ _ hb
  | opmask _ ht | status _ ht | general _ ht => rw [Instr.vectorDest, Instr.op, ht] at hr; cases hr

/-! ## Completed and refused instructions -/

/-- An instruction that completes was ready, read its operand without a fault, had room for the pc, and then moved it. -/
theorem exec_next {i : Instr} {s t : State} (h : exec i s = .next t) :
    ∃ F u, Ready s i.op ∧ operandFault i.parts s = none ∧ s.pcFits i.length = true ∧ Effect i.parts s F u ∧
      t = u.advance i.length := by
  have ho := exec_outcome i s
  generalize exec i s = o at h ho
  cases ho with
  | undefined | unavailable | memory | simd => exact absurd h (raise_ne_next _ _ _)
  | overflow => cases h
  | done F u hr he hp _ _ hu => cases h; exact ⟨F, u, hr, he, hp, hu, rfl⟩

/-- The only refusal is that of a pc past the address width. -/
theorem exec_refused {i : Instr} {s : State} {r : Refusal} (h : exec i s = .refused r) :
    r = .pcOverflow ∧ s.pcFits i.length = false := by
  have ho := exec_outcome i s
  generalize exec i s = o at h ho
  cases ho with
  | undefined | unavailable | memory | simd => exact absurd h (raise_ne_refused _ _ _)
  | overflow _ _ hp => cases h; exact ⟨rfl, hp⟩
  | done => cases h

theorem State.pcFits_iff (s : State) (n : Nat) : s.pcFits n = true ↔ s.pc.toNat + n < 2 ^ s.pcBits := by
  simp [State.pcFits]

theorem State.pcBits_le (s : State) : s.pcBits ≤ 64 := by
  unfold State.pcBits
  split <;> decide

/-- Where the pc fits, it moves by the length without wrapping. -/
theorem State.toNat_pc_add {s : State} {n : Nat} (h : s.pcFits n = true) :
    (s.pc + BitVec.ofNat 64 n).toNat = s.pc.toNat + n := by
  have hlt : s.pc.toNat + n < 2 ^ 64 :=
    lt_of_lt_of_le ((s.pcFits_iff n).1 h) (Nat.pow_le_pow_right (by decide) s.pcBits_le)
  rw [BitVec.toNat_add, BitVec.toNat_ofNat]
  omega

/-! ## The invariant -/

/-- The six flags lie below bit 16, so recording them leaves bits 31:16 (spec/10_state.md R28). -/
theorem mxcsr_high_or_flags (m : BitVec 32) (F : Flags) :
    (m ||| F.setWidth 32).extractLsb' 16 16 = m.extractLsb' 16 16 := by
  refine BitVec.eq_of_getLsbD_eq fun b _ => ?_
  have hF : F.getLsbD (16 + b) = false := BitVec.getLsbD_of_ge F _ (by omega)
  simp [hF]

theorem exec_keeps_inv {i : Instr} {s t : State} (hs : s.Inv) (h : exec i s = .next t) : t.Inv := by
  obtain ⟨F, u, -, -, hp, hu, rfl⟩ := exec_next h
  have hbits : (u.advance i.length).pcBits = s.pcBits := hu.pcBits_eq
  refine ⟨hu.memWf hs.memory, ?_, ?_⟩
  · rw [State.advance_mxcsr, hu.mxcsr_eq, mxcsr_high_or_flags]
    exact hs.mxcsr
  · rw [State.advance_pc, hu.pc_eq, hbits, State.toNat_pc_add hp]
    exact (s.pcFits_iff _).1 hp

/-- A step that answers a state has executed an instruction. -/
theorem step_next {s t : State} (h : step s = .next t) : ∃ i, exec i s = .next t := by
  unfold step at h
  split at h
  · exact ⟨_, h⟩
  · exact absurd h (raise_ne_next _ _ _)
  · cases h

/-- Settles O11: a step that answers a state is an instruction's, and its effect keeps each clause. -/
theorem stepKeepsInv : Obligations.StepKeepsInv := by
  intro s t hs h
  obtain ⟨i, hi⟩ := step_next h
  exact exec_keeps_inv hs hi

/-- Settles O10: nothing is listed in memory, and MXCSR and pc are literals. -/
theorem resetInv : Obligations.ResetInv := ⟨State.memWf_reset, by decide, by decide⟩

/-- Settles O9: the register files are replicated zeros, the rest are literals. -/
theorem resetValues : Obligations.ResetValues := by
  refine ⟨fun r => ?_, fun r => ?_, rfl, rfl, rfl, rfl, rfl, rfl, rfl, rfl⟩
  · exact Vector.getElem_replicate _
  · exact Vector.getElem_replicate _

/-! ## The pc, EFLAGS and the registers -/

/-- Settles O15: no effect moves the pc, and `complete` is the only source of a refusal. -/
theorem pcAdvances : Obligations.PcAdvances := by
  refine fun i s => ⟨fun t h => ?_, fun r h => ?_⟩
  · obtain ⟨F, u, -, -, hp, hu, rfl⟩ := exec_next h
    rw [State.advance_pc, hu.pc_eq]
    exact ⟨rfl, (s.pcFits_iff _).1 hp⟩
  · obtain ⟨hr, hp⟩ := exec_refused h
    refine ⟨hr, Nat.le_of_not_lt fun hlt => ?_⟩
    rw [(s.pcFits_iff _).2 hlt] at hp
    cases hp

/-- A bit that is no status flag is one that the mask keeps. -/
theorem getLsbD_not_statusMask {b : Nat} (hb : b < 32) (h : b ∉ [0, 2, 4, 6, 7, 11]) :
    (~~~statusMask).getLsbD b = true := by
  have : ∀ b : Fin 32, b.val ∉ [0, 2, 4, 6, 7, 11] → (~~~statusMask).getLsbD b.val = true := by decide
  exact this ⟨b, hb⟩ h

/-- EFLAGS that agree outside the status flags agree in each bit that is none of them. -/
theorem getLsbD_eq_of_statusMask {x y : BitVec 32} (h : x &&& ~~~statusMask = y &&& ~~~statusMask) {b : Nat}
    (hb : b ∉ [0, 2, 4, 6, 7, 11]) : x.getLsbD b = y.getLsbD b := by
  by_cases hlt : b < 32
  · have hbit := congrArg (·.getLsbD b) h
    simpa only [BitVec.getLsbD_and, getLsbD_not_statusMask hlt hb, Bool.and_true] using hbit
  · rw [BitVec.getLsbD_of_ge x b (by omega), BitVec.getLsbD_of_ge y b (by omega)]

/-- Settles O19: by the frame of every effect; only a compare's is allowed to write EFLAGS. -/
theorem systemFrame : Obligations.SystemFrame := by
  intro i s t h
  obtain ⟨F, u, -, -, -, hu, rfl⟩ := exec_next h
  refine ⟨fun hop => hu.eflags_eq fun ht => hop (Op.mem_of_target_status ht),
    fun b hb => getLsbD_eq_of_statusMask hu.eflags_frame hb, ?_⟩
  rw [hu.frame]
  exact ⟨rfl, rfl, rfl, rfl, rfl, rfl, rfl, rfl⟩

/-- Settles O20: the register an effect writes is the destination of the form. -/
theorem registerFrame : Obligations.RegisterFrame := by
  intro i s t h
  obtain ⟨F, u, -, -, -, hu, rfl⟩ := exec_next h
  exact ⟨fun _ hr => hu.vec_other hr, fun _ hr => hu.opmask_other hr, fun _ hr => hu.general_other hr⟩

/-- Settles O22: by what every vector result and every stored register holds above the form's bits. -/
theorem upperBitsZero : Obligations.UpperBitsZero := by
  intro i s t r h hr b hb
  obtain ⟨F, u, -, -, -, hu, rfl⟩ := exec_next h
  exact hu.vec_above hr hb

end Sys2Proof.Machine
end

section
/-! PROOFS. The flags that each element function can signal (spec/10_state.md R30). -/

namespace Sys2Proof.Machine

/-- The flags are among the bits of the list. -/
def Within (l : List Nat) (F : Flags) : Prop := ∀ b, F.getLsbD b = true → b ∈ l

theorem within_zero (l : List Nat) : Within l 0 := by simp [Within]

theorem within_or {l : List Nat} {F G : Flags} (hF : Within l F) (hG : Within l G) : Within l (F ||| G) := by
  intro b hb
  rw [BitVec.getLsbD_or, Bool.or_eq_true] at hb
  exact hb.elim (hF b) (hG b)

theorem within_when {l : List Nat} {c : Bool} {F : Flags} (h : Within l F) : Within l (when c F) := by
  cases c
  · exact within_zero l
  · exact h

theorem within_collectFlags {l : List Nat} {active : Nat → Bool} {fl : Nat → Flags} {n : Nat}
    (h : ∀ j, Within l (fl j)) : Within l (collectFlags active fl n) := by
  intro b hb
  obtain ⟨j, -, -, hj⟩ := (getLsbD_collectFlags active fl n b).1 hb
  exact h j b hj

theorem within_effectiveFlags {l : List Nat} {loc : Loc} {F : Flags} (h : Within l F) :
    Within l (effectiveFlags loc F) := by
  unfold effectiveFlags
  split
  · exact within_zero l
  · exact h

/-- A list that holds nothing allows no flag. -/
theorem eq_zero_of_within_nil {F : Flags} (h : Within [] F) : F = 0 := by
  refine BitVec.eq_of_getLsbD_eq fun b _ => ?_
  have hb : ¬ F.getLsbD b = true := fun hb => List.not_mem_nil (h b hb)
  simpa using hb

/-- One flag alone. -/
theorem within_twoPow {l : List Nat} {k : Nat} (h : k ∈ l) : Within l (BitVec.twoPow 6 k) := by
  intro b hb
  rw [BitVec.getLsbD_twoPow, Bool.and_eq_true, decide_eq_true_eq, decide_eq_true_eq] at hb
  exact hb.2 ▸ h

theorem within_flagIE {l : List Nat} (h : 0 ∈ l) : Within l flagIE := within_twoPow h
theorem within_flagDE {l : List Nat} (h : 1 ∈ l) : Within l flagDE := within_twoPow h
theorem within_flagOE {l : List Nat} (h : 3 ∈ l) : Within l flagOE := within_twoPow h
theorem within_flagUE {l : List Nat} (h : 4 ∈ l) : Within l flagUE := within_twoPow h
theorem within_flagPE {l : List Nat} (h : 5 ∈ l) : Within l flagPE := within_twoPow h

/-! ## The compares and MINMAX: IE and DE -/

theorem comxFlags_within (f : Fmt) (q : Bool) (a b : Nat) : Within [0, 1] (comxFlags f q a b) := by
  unfold comxFlags
  split
  · exact within_flagIE (by decide)
  split
  · exact within_flagDE (by decide)
  · exact within_zero _

theorem minmaxFlags_within (f : Fmt) (a b : Nat) : Within [0, 1] (minmaxFlags f a b) := by
  unfold minmaxFlags
  split
  · exact within_flagIE (by decide)
  split
  · exact within_zero _
  · exact within_when (within_flagDE (by decide))

/-- With exceptions on, MINMAX signals the flags of its operands after DAZ (spec/40_numerics_helpers.md R158). -/
theorem minmaxElem_within (f : Fmt) (w : Nat) (imm : BitVec 8) (daz : Bool) (o : Sources) (j : Nat) :
    Within [0, 1] (minmaxElem f w imm daz true o j).2 := by
  simp only [minmaxElem, minmax, if_true]
  exact minmaxFlags_within f _ _

/-! ## The FP8 and FP16 converts: IE, DE, OE, UE and PE -/

theorem fp8Flags_within (y : Fp8) (x : Nat) (r : Fp8Result) : Within [0, 1, 3, 4, 5] (fp8Flags y x r) := by
  have hDE : Within [0, 1, 3, 4, 5] (when (fp16.isDenormal x) flagDE) := within_when (within_flagDE (by decide))
  have hPE : Within [0, 1, 3, 4, 5] flagPE := within_flagPE (by decide)
  unfold fp8Flags
  split
  · exact within_flagIE (by decide)
  split
  · exact within_zero _
  split
  · exact within_or (within_or hDE (within_flagOE (by decide))) hPE
  split
  · exact hDE
  · exact within_or (within_or hDE hPE) (within_when (within_flagUE (by decide)))

theorem roundGradual_within (f : Fmt) (rm : RoundMode) (neg : Bool) (mag : Nat) (exp : Int) :
    Within [0, 1, 3, 4, 5] (f.roundGradual rm neg mag exp).2 := by
  have hUE : Within [0, 1, 3, 4, 5] flagUE := within_flagUE (by decide)
  have hPE : Within [0, 1, 3, 4, 5] flagPE := within_flagPE (by decide)
  unfold Fmt.roundGradual
  dsimp only
  split
  · exact within_when (within_or hUE hPE)
  split
  · exact within_or (within_flagOE (by decide)) hPE
  split <;> exact within_when (within_or (within_when hUE) hPE)

theorem fp32ToFp16_within (rm : RoundMode) (daz : Bool) (x : Nat) :
    Within [0, 1, 3, 4, 5] (fp32ToFp16 rm daz x).2 := by
  unfold fp32ToFp16
  dsimp only
  split
  · exact within_zero _
  split
  · exact within_when (within_flagIE (by decide))
  split
  · exact within_zero _
  · exact within_or (within_when (within_flagDE (by decide))) (roundGradual_within _ _ _ _ _)

/-! ## The saturating converts: IE and PE -/

theorem satCvt_within (f : Fmt) (x : Nat) (signed : Bool) (w : Nat) (rm : RoundMode) :
    Within [0, 5] (satCvt f x signed w rm).2 := by
  have hIE : Within [0, 5] flagIE := within_flagIE (by decide)
  unfold satCvt
  split
  · exact hIE
  split
  · exact hIE
  dsimp only
  split
  · exact hIE
  split
  · exact hIE
  · exact within_when (within_flagPE (by decide))

end Sys2Proof.Machine
end

section
/-! PROOFS. Every instruction as one sequence, with the flags it signals and the state it writes as functions of the state
before it, and what these read of MXCSR (spec/30_encoding.md R114, spec/10_state.md R28 to R31). -/

namespace Sys2Proof

/-- The forms of the classes E4, E9NF and E10NF, and VMPSADBW (spec/60_exceptions.md R424, R429, R431). -/
def Op.ignoresMxcsr (op : Op) : Bool :=
  op.info.cls == .e4 || op.info.cls == .e9nf || op.info.cls == .e10nf || op == .vmpsadbw

theorem Op.ignoresMxcsr_iff (op : Op) :
    op.ignoresMxcsr = true ↔ op.info.cls = .e4 ∨ op.info.cls = .e9nf ∨ op.info.cls = .e10nf ∨ op = .vmpsadbw := by
  simp [Op.ignoresMxcsr, or_assoc]

/-- They are among the forms for which R30 names no flag. -/
theorem Op.settable_of_ignoresMxcsr {op : Op} (h : op.ignoresMxcsr = true) : op.settable = [] := by
  revert h
  cases op <;> decide

end Sys2Proof

namespace Sys2Proof.Machine

/-! ## Another MXCSR -/

/-- The state with another MXCSR. -/
def State.withMxcsr (s : State) (m : BitVec 32) : State := { s with mxcsr := m }

theorem State.load_withMxcsr (s : State) (m : BitVec 32) (a : MemAccess) : (s.withMxcsr m).load a = s.load a := by
  have hb : ∀ l, (s.withMxcsr m).loadBytes a l = s.loadBytes a l := by
    intro l
    induction l with
    | nil => rfl
    | cons o os ih => rw [State.loadBytes, State.loadBytes, ih]; rfl
  rw [State.load, State.load, hb]
  rfl

theorem State.source_withMxcsr (s : State) (m : BitVec 32) (op : Op) (vl : VL) (raw : Raw) :
    (s.withMxcsr m).source op vl raw = s.source op vl raw := by
  unfold State.source
  split
  · rfl
  · rfl
  · rfl
  · exact s.load_withMxcsr m _
  · rw [show (s.withMxcsr m).load _ = s.load _ from s.load_withMxcsr m _]; rfl

theorem operandFault_withMxcsr (p : Parts) (s : State) (m : BitVec 32) :
    operandFault p (s.withMxcsr m) = operandFault p s := by
  rw [operandFault, operandFault, s.source_withMxcsr]
  rfl

theorem State.storeBytes_withMxcsr (s : State) (m : BitVec 32) (a : MemAccess) (v : Zmm) (n : Nat) :
    (s.withMxcsr m).storeBytes a v n = (s.storeBytes a v n).withMxcsr m := by
  induction n with
  | zero => rfl
  | succ n ih => rw [State.storeBytes, State.storeBytes, ih]; rfl

theorem State.stored_withMxcsr (s : State) (m : BitVec 32) (op : Op) (rm : RM) (w : Nat) (v : Zmm) :
    (s.withMxcsr m).stored op rm w v = (s.stored op rm w v).withMxcsr m := by
  obtain ⟨r, hr⟩ | ⟨a, -, ha⟩ := rm.loc.register_or_addr
  · rw [State.stored_register _ op hr, State.stored_register _ op hr]; rfl
  · rw [State.stored_memory _ op ha, State.stored_memory _ op ha]
    exact s.storeBytes_withMxcsr m _ _ _

theorem State.wideWidth_withMxcsr (s : State) (m : BitVec 32) : (s.withMxcsr m).wideWidth = s.wideWidth := rfl

theorem Ready.of_withMxcsr {s : State} {m : BitVec 32} {op : Op} (h : Ready (s.withMxcsr m) op) : Ready s op :=
  ⟨h.notReal, h.notVirtual, h.osxsave, h.sse, h.avx, h.opmask, h.zmmHi256, h.hi16Zmm, h.cpuid, h.notTaskSwitch⟩

/-- A form reads of MXCSR at most DAZ and RC; these are the same in `m`, or the form reads neither. -/
def SameControls (op : Op) (s : State) (m : BitVec 32) : Prop :=
  op.ignoresMxcsr = false → (s.withMxcsr m).daz = s.daz ∧ (s.withMxcsr m).rc = s.rc

theorem SameControls.daz {op : Op} {s : State} {m : BitVec 32} (h : SameControls op s m)
    (ho : op.ignoresMxcsr = false) : (s.withMxcsr m).daz = s.daz := (h ho).1

theorem SameControls.roundMode {op : Op} {s : State} {m : BitVec 32} (h : SameControls op s m)
    (ho : op.ignoresMxcsr = false) (loc : Loc) : (s.withMxcsr m).roundMode loc = s.roundMode loc := by
  unfold State.roundMode
  rw [(h ho).2]

/-- Masking every exception leaves DAZ and RC (spec/10_state.md R28). -/
theorem sameControls_allMasked (op : Op) (s : State) : SameControls op s s.allMasked.mxcsr := fun _ =>
  ⟨s.daz_allMasked, s.rc_allMasked⟩

/-! ## The sequence of every instruction -/

/-- What an instruction signals and writes, each a function of the state before it. -/
structure Action where
  flags : State → Flags
  write : State → State

/-- The memory fault of the operand if it has one, else the rest of the instruction. -/
def faultOr (p : Parts) (s : State) (rest : Out) : Out :=
  match operandFault p s with
  | some e => raise e s
  | none => rest

theorem faultOr_none {p : Parts} {s : State} (h : operandFault p s = none) (rest : Out) : faultOr p s rest = rest := by
  rw [faultOr, h]

theorem faultOr_some {p : Parts} {s : State} {e : Exc} (h : operandFault p s = some e) (rest : Out) :
    faultOr p s rest = raise e s := by
  rw [faultOr, h]

/-- The sequence of spec/30_encoding.md R114 around an action. -/
def Action.run (a : Action) (p : Parts) (s : State) : Out :=
  guarded p.op s <| faultOr p s <| signal p.op p.raw.rm.loc (a.flags s) s fun u =>
    complete (p.op.length p.raw.rm) ((a.write s).withMxcsr u.mxcsr)

/-- An action signals only what R30 allows, and of MXCSR it reads at most the controls and writes nothing but flags. -/
structure Action.Lawful (a : Action) (p : Parts) : Prop where
  settable : ∀ s, Within p.op.settable (a.flags s)
  flags_eq : ∀ s m, SameControls p.op s m → a.flags (s.withMxcsr m) = a.flags s
  write_eq : ∀ s m, SameControls p.op s m → a.write (s.withMxcsr m) = (a.write s).withMxcsr m

/-- A form runs as a lawful action. -/
def ActsAs (p : Parts) (run : State → Out) : Prop := ∃ a : Action, a.Lawful p ∧ ∀ s, run s = a.run p s

/-! ## Each kind of destination -/

/-- The value of the r/m source, 0 where reading it faults. -/
def sourceValue (p : Parts) (s : State) : Zmm :=
  match s.source p.op p.vl p.raw with
  | .ok x => x
  | .error _ => 0

theorem sourceValue_withMxcsr (p : Parts) (s : State) (m : BitVec 32) :
    sourceValue p (s.withMxcsr m) = sourceValue p s := by
  rw [sourceValue, sourceValue, s.source_withMxcsr]

/-- The operands an element function reads. -/
def operands (p : Parts) (s : State) : Sources := s.sources p.raw (sourceValue p s)

theorem operands_withMxcsr (p : Parts) (s : State) (m : BitVec 32) : operands p (s.withMxcsr m) = operands p s := by
  rw [operands, sourceValue_withMxcsr]
  rfl

theorem withSource_eq {p : Parts} (ht : p.op.target ≠ .store) (s : State) (rest : Zmm → Out) :
    withSource p.op p.vl p.raw s rest = faultOr p s (rest (sourceValue p s)) := by
  rw [withSource, faultOr, operandFault, if_neg ht, sourceValue]
  cases s.source p.op p.vl p.raw <;> rfl

/-- The action of `execVec`; an element function may read the controls of the state. -/
def vecAction (p : Parts) (w n : Nat) (elem : State → Sources → Nat → Elem w) : Action where
  flags s := collectFlags (s.active p.raw.aaa) (fun j => (elem s (operands p s) j).2) n
  write s := s.setVec p.raw.reg
    (maskedVec w n (s.active p.raw.aaa) p.raw.z (s.vec p.raw.reg) fun j => (elem s (operands p s) j).1)

/-- The action of `execScalar`. -/
def scalarAction (p : Parts) (w : Nat) (elem : State → Sources → Elem w) : Action where
  flags s := when (s.active p.raw.aaa 0) (elem s (operands p s)).2
  write s := s.setVec p.raw.reg (scalarResult w (s.active p.raw.aaa 0) p.raw.z (s.vec p.raw.reg) (s.vec p.raw.vvvv)
    (elem s (operands p s)).1)

/-- The action of `execCompare`. -/
def compareAction (p : Parts) (cmp : State → Sources → BitVec 32 × Flags) : Action where
  flags s := (cmp s (operands p s)).2
  write s := s.setStatus (cmp s (operands p s)).1

/-- The action of `execGeneral`. -/
def generalAction (p : Parts) (conv : State → Sources → Elem 64) : Action where
  flags s := (conv s (operands p s)).2
  write s := s.setGeneral (p.raw.reg.setWidth 4) (conv s (operands p s)).1

/-- An action that signals nothing. -/
def silentAction (write : State → State) : Action where
  flags _ := 0
  write := write

/-- It is the write alone, where the write leaves MXCSR. -/
theorem silentAction_run {write : State → State} (p : Parts) {s : State}
    (h : (write s).withMxcsr s.mxcsr = write s) :
    (silentAction write).run p s = guarded p.op s (faultOr p s (complete (p.op.length p.raw.rm) (write s))) := by
  rw [Action.run, silentAction, signal_zero, h]

theorem silentAction_lawful {write : State → State} (p : Parts)
    (h : ∀ s m, write (s.withMxcsr m) = (write s).withMxcsr m) : (silentAction write).Lawful p :=
  ⟨fun _ => within_zero _, fun _ _ _ => rfl, fun s m _ => h s m⟩

section
variable {op : Op} {vl : VL} {raw : Raw}

theorem execVec_actsAs {w n : Nat} (elem : State → Sources → Nat → Elem w) (ht : op.target = .vector)
    (hf : ∀ s o j, Within op.settable (elem s o j).2)
    (hc : ∀ s m, SameControls op s m → elem (s.withMxcsr m) = elem s) :
    ActsAs ⟨op, vl, raw⟩ fun s => execVec op vl raw w n (elem s) s := by
  refine ⟨vecAction ⟨op, vl, raw⟩ w n elem,
    ⟨fun s => within_collectFlags fun j => hf s _ j, fun s m h => ?_, fun s m h => ?_⟩, fun s => ?_⟩
  · simp only [vecAction, hc s m h, operands_withMxcsr]; rfl
  · simp only [vecAction, hc s m h, operands_withMxcsr]; rfl
  · exact congrArg (guarded op s) (withSource_eq (p := ⟨op, vl, raw⟩) (by simp [ht]) s _)

theorem execScalar_actsAs {w : Nat} (elem : State → Sources → Elem w) (ht : op.target = .vector)
    (hf : ∀ s o, Within op.settable (elem s o).2)
    (hc : ∀ s m, SameControls op s m → elem (s.withMxcsr m) = elem s) :
    ActsAs ⟨op, .v128, raw⟩ fun s => execScalar op raw w (elem s) s := by
  refine ⟨scalarAction ⟨op, .v128, raw⟩ w elem,
    ⟨fun s => within_when (hf s _), fun s m h => ?_, fun s m h => ?_⟩, fun s => ?_⟩
  · simp only [scalarAction, hc s m h, operands_withMxcsr]; rfl
  · simp only [scalarAction, hc s m h, operands_withMxcsr]; rfl
  · exact congrArg (guarded op s) (withSource_eq (p := ⟨op, .v128, raw⟩) (by simp [ht]) s _)

theorem execCompare_actsAs (cmp : State → Sources → BitVec 32 × Flags) (ht : op.target = .status)
    (hf : ∀ s o, Within op.settable (cmp s o).2)
    (hc : ∀ s m, SameControls op s m → cmp (s.withMxcsr m) = cmp s) :
    ActsAs ⟨op, .v128, raw⟩ fun s => execCompare op raw (cmp s) s := by
  refine ⟨compareAction ⟨op, .v128, raw⟩ cmp,
    ⟨fun s => hf s _, fun s m h => ?_, fun s m h => ?_⟩, fun s => ?_⟩
  · simp only [compareAction, hc s m h, operands_withMxcsr]
  · simp only [compareAction, hc s m h, operands_withMxcsr]; rfl
  · exact congrArg (guarded op s) (withSource_eq (p := ⟨op, .v128, raw⟩) (by simp [ht]) s _)

theorem execGeneral_actsAs (conv : State → Sources → Elem 64) (ht : op.target = .general)
    (hf : ∀ s o, Within op.settable (conv s o).2)
    (hc : ∀ s m, SameControls op s m → conv (s.withMxcsr m) = conv s) :
    ActsAs ⟨op, .v128, raw⟩ fun s => execGeneral op raw (conv s) s := by
  refine ⟨generalAction ⟨op, .v128, raw⟩ conv,
    ⟨fun s => hf s _, fun s m h => ?_, fun s m h => ?_⟩, fun s => ?_⟩
  · simp only [generalAction, hc s m h, operands_withMxcsr]
  · simp only [generalAction, hc s m h, operands_withMxcsr]; rfl
  · exact congrArg (guarded op s) (withSource_eq (p := ⟨op, .v128, raw⟩) (by simp [ht]) s _)

theorem execMask_actsAs {n : Nat} (bitAt : Sources → Nat → Bool) (ht : op.target = .opmask) :
    ActsAs ⟨op, vl, raw⟩ (execMask op vl raw n bitAt) := by
  refine ⟨silentAction fun s => s.setOpmask (raw.reg.setWidth 3)
    (maskBits n (s.active raw.aaa) (bitAt (operands ⟨op, vl, raw⟩ s))),
    silentAction_lawful _ fun s m => ?_, fun s => ?_⟩
  · rw [operands_withMxcsr]; rfl
  · rw [silentAction_run _ rfl]
    exact congrArg (guarded op s) (withSource_eq (p := ⟨op, vl, raw⟩) (by simp [ht]) s _)

theorem execLoad_actsAs {w : Nat} (ht : op.target = .vector) : ActsAs ⟨op, .v128, raw⟩ (execLoad op raw w) := by
  refine ⟨silentAction fun s => s.setVec raw.reg ((lane w 0 (sourceValue ⟨op, .v128, raw⟩ s)).setWidth 512),
    silentAction_lawful _ fun s m => ?_, fun s => ?_⟩
  · rw [sourceValue_withMxcsr]; rfl
  · rw [silentAction_run _ rfl]
    exact congrArg (guarded op s) (withSource_eq (p := ⟨op, .v128, raw⟩) (by simp [ht]) s _)

theorem execStore_actsAs {w : Nat} (ht : op.target = .store) : ActsAs ⟨op, .v128, raw⟩ (execStore op raw w) := by
  refine ⟨silentAction fun s => s.stored op raw.rm w (s.vec raw.reg),
    silentAction_lawful _ fun s m => s.stored_withMxcsr m _ _ _ _, fun s => ?_⟩
  rw [silentAction_run _ (s.stored_withMxcsr s.mxcsr _ _ _ _).symm, faultOr, operandFault, if_pos ht]
  rfl

end

/-! ## Every instruction -/

/-- Every instruction is a lawful action. -/
theorem exec_actsAs (i : Instr) : ActsAs i.parts (exec i) := by
  cases i with
  | vaddbf16 | vdivbf16 | vmaxbf16 | vminbf16 | vmulbf16 | vscalefbf16 | vsqrtbf16 | vsubbf16
  | vfmadd132bf16 | vfmadd213bf16 | vfmadd231bf16 | vfmsub132bf16 | vfmsub213bf16 | vfmsub231bf16
  | vfnmadd132bf16 | vfnmadd213bf16 | vfnmadd231bf16 | vfnmsub132bf16 | vfnmsub213bf16 | vfnmsub231bf16
  | vgetexpbf16 | vgetmantbf16 | vrcpbf16 | vreducebf16 | vrndscalebf16 | vrsqrtbf16
  | vdphphs | vmpsadbw | vpdpbssd | vpdpbssds | vpdpbsud | vpdpbsuds | vpdpbuud | vpdpbuuds
  | vpdpwsud | vpdpwsuds | vpdpwusd | vpdpwusds | vpdpwuud | vpdpwuuds | vminmaxbf16
  | vcvtbf162ibs | vcvtbf162iubs | vcvttbf162ibs | vcvttbf162iubs =>
    exact execVec_actsAs _ rfl (fun _ _ _ => within_zero _) fun _ _ _ => rfl
  | vcmpbf16 | vfpclassbf16 => exact execMask_actsAs _ rfl
  | vcomisbf16 => exact execCompare_actsAs _ rfl (fun _ _ => within_zero _) fun _ _ _ => rfl
  | vcomxsh | vucomxsh => exact execCompare_actsAs _ rfl (fun _ _ => comxFlags_within _ _ _ _) fun _ _ _ => rfl
  | vcomxsd | vcomxss | vucomxsd | vucomxss =>
    exact execCompare_actsAs _ rfl (fun _ _ => comxFlags_within _ _ _ _) fun _ _ h => by rw [h.daz rfl]
  | vcvt2ph2bf8 | vcvt2ph2bf8s | vcvt2ph2hf8 | vcvt2ph2hf8s | vcvtph2bf8 | vcvtph2bf8s | vcvtph2hf8 | vcvtph2hf8s
  | vcvtbiasph2bf8 | vcvtbiasph2bf8s | vcvtbiasph2hf8 | vcvtbiasph2hf8s =>
    exact execVec_actsAs _ rfl (fun _ _ _ => fp8Flags_within _ _ _) fun _ _ _ => rfl
  | vcvt2ps2phx =>
    exact execVec_actsAs _ rfl (fun _ _ _ => fp32ToFp16_within _ _ _) fun _ _ h => by rw [h.daz rfl, h.roundMode rfl]
  | vcvthf82ph =>
    exact execVec_actsAs _ rfl (fun _ _ _ => within_when (within_flagDE (by decide))) fun _ _ _ => rfl
  | vminmaxph => exact execVec_actsAs _ rfl (fun _ _ _ => minmaxElem_within _ _ _ _ _ _) fun _ _ _ => rfl
  | vminmaxpd | vminmaxps =>
    exact execVec_actsAs _ rfl (fun _ _ _ => minmaxElem_within _ _ _ _ _ _) fun _ _ h => by rw [h.daz rfl]
  | vminmaxsh o imm =>
    exact execScalar_actsAs (fun _ x => minmaxElem fp16 16 imm false true x 0) rfl
      (fun _ _ => minmaxElem_within _ _ _ _ _ _) fun _ _ _ => rfl
  | vminmaxss o imm =>
    exact execScalar_actsAs (fun s x => minmaxElem fp32 32 imm s.daz true x 0) rfl
      (fun _ _ => minmaxElem_within _ _ _ _ _ _) fun _ _ h => by rw [h.daz rfl]
  | vminmaxsd o imm =>
    exact execScalar_actsAs (fun s x => minmaxElem fp64 64 imm s.daz true x 0) rfl
      (fun _ _ => minmaxElem_within _ _ _ _ _ _) fun _ _ h => by rw [h.daz rfl]
  | vcvttph2ibs | vcvttph2iubs =>
    exact execVec_actsAs _ rfl (fun _ _ _ => satCvt_within _ _ _ _ _) fun _ _ _ => rfl
  | vcvttpd2dqs | vcvttpd2qqs | vcvttpd2udqs | vcvttpd2uqqs
  | vcvttps2dqs | vcvttps2qqs | vcvttps2udqs | vcvttps2uqqs | vcvttps2ibs | vcvttps2iubs =>
    exact execVec_actsAs _ rfl (fun _ _ _ => satCvt_within _ _ _ _ _) fun _ _ h => by rw [h.daz rfl]
  | vcvtph2ibs | vcvtph2iubs =>
    exact execVec_actsAs _ rfl (fun _ _ _ => satCvt_within _ _ _ _ _) fun _ _ h => by rw [h.roundMode rfl]
  | vcvtps2ibs | vcvtps2iubs =>
    exact execVec_actsAs _ rfl (fun _ _ _ => satCvt_within _ _ _ _ _) fun _ _ h => by rw [h.daz rfl, h.roundMode rfl]
  | vcvttsd2sisR32 | vcvttsd2usisR32 | vcvttss2sisR32 | vcvttss2usisR32 =>
    exact execGeneral_actsAs _ rfl (fun _ _ => satCvt_within _ _ _ _ _) fun _ _ h => by rw [h.daz rfl]
  | vcvttsd2sisR64 | vcvttsd2usisR64 | vcvttss2sisR64 | vcvttss2usisR64 =>
    exact execGeneral_actsAs _ rfl (fun _ _ => satCvt_within _ _ _ _ _) fun _ _ h => by
      rw [h.daz rfl, State.wideWidth_withMxcsr]
  | vmovdLoad | vmovwLoad => exact execLoad_actsAs rfl
  | vmovdStore | vmovwStore => exact execStore_actsAs rfl

end Sys2Proof.Machine
end

section
/-! PROOFS. The statements on #UD, #NM, the SIMD floating-point exception and MXCSR (spec/10_state.md R28 to R31, R38 to
R40, spec/60_exceptions.md R432), from the action of each instruction. -/

namespace Sys2Proof.Machine

/-! ## The checks at the start -/

/-- Every instruction starts with the checks for #UD and #NM. -/
theorem exec_guarded (i : Instr) (s : State) : ∃ rest, exec i s = guarded i.op s rest := by
  obtain ⟨a, -, hrun⟩ := exec_actsAs i
  exact ⟨_, hrun s⟩

/-- Settles O12: each of the conditions makes the extension undefined, and that check comes first. -/
theorem osxsaveClearRaisesUd : Obligations.OsxsaveClearRaisesUd := by
  intro i s h
  have hu : s.undefinedHere i.op.info.feature = true := by
    obtain h | h | h := h
    · have hx : s.osxsave = false := h
      simp [State.undefinedHere, hx]
    · simp [State.undefinedHere, h]
    · simp [State.undefinedHere, h]
  obtain ⟨rest, hg⟩ := exec_guarded i s
  rw [hg, guarded_undefined hu]

/-- Settles O14: the check of CR0.TS comes right after those for #UD. -/
theorem taskSwitchedRaisesNm : Obligations.TaskSwitchedRaisesNm := by
  intro i s h
  obtain ⟨rest, hg⟩ := exec_guarded i s
  have hts : s.ts = true := h
  rw [hg, guarded, hts, if_pos rfl]

/-! ## Flags -/

theorem State.unmasked_iff (s : State) (cls : ExcClass) (F : Flags) :
    s.unmasked cls F = true ↔ cls.consultsMasks = true ∧ F &&& ~~~s.masks ≠ 0 := by
  simp [State.unmasked]

/-- The two outcomes of step 7 of spec/30_encoding.md R114. -/
theorem signal_eq (op : Op) (loc : Loc) (f : Flags) (s : State) (rest : State → Out) :
    signal op loc f s rest =
      if op.info.cls.consultsMasks = true ∧ effectiveFlags loc f &&& ~~~s.masks ≠ 0 then
        raise (if s.osxmmexcpt then .xm else .ud) (s.orFlags (effectiveFlags loc f))
      else rest (s.orFlags (effectiveFlags loc f)) := by
  simp only [signal, State.unmasked_iff]

theorem complete_next {n : Nat} {s t : State} (h : complete n s = .next t) : s.pcFits n = true ∧ t = s.advance n := by
  unfold complete at h
  split at h
  · cases h; exact ⟨‹_›, rfl⟩
  · cases h

/-- Past the checks an action signals its flags and writes. -/
theorem Action.run_ready (a : Action) {p : Parts} {s : State} (hr : Ready s p.op) (he : operandFault p s = none) :
    a.run p s = signal p.op p.raw.rm.loc (a.flags s) s fun u =>
      complete (p.op.length p.raw.rm) ((a.write s).withMxcsr u.mxcsr) := by
  rw [Action.run, guarded_ready hr, faultOr_none he]

/-- Settles O18: the flags recorded are the effective ones of the instruction's action. -/
theorem mxcsrFrame : Obligations.MxcsrFrame := by
  intro i s t h
  obtain ⟨a, ha, hrun⟩ := exec_actsAs i
  obtain ⟨-, -, hr, he, -⟩ := exec_next h
  rw [hrun, a.run_ready hr he, signal_eq] at h
  split at h
  · exact absurd h (raise_ne_next _ _ _)
  · rename_i hm
    obtain ⟨-, rfl⟩ := complete_next h
    refine ⟨effectiveFlags i.parts.raw.rm.loc (a.flags s), rfl, within_effectiveFlags (ha.settable s), fun hsae => ?_,
      fun hc => ?_⟩
    · rw [effectiveFlags, if_pos hsae]
    · exact not_not.1 fun hF => hm ⟨hc, hF⟩

/-! ## The SIMD floating-point exception -/

/-- With no flag set before, the low six bits of MXCSR are the flags recorded. -/
theorem flags_of_allMasked (s : State) (F : Flags) : (s.allMasked.mxcsr ||| F.setWidth 32).extractLsb' 0 6 = F := by
  ext b hb
  have hclear : s.allMasked.mxcsr.getLsbD b = false := by
    obtain rfl | rfl | rfl | rfl | rfl | rfl : b = 0 ∨ b = 1 ∨ b = 2 ∨ b = 3 ∨ b = 4 ∨ b = 5 := by omega
    all_goals simp
  rw [← BitVec.getLsbD_eq_getElem, BitVec.getLsbD_extractLsb', Nat.zero_add, BitVec.getLsbD_or, hclear,
    BitVec.getLsbD_setWidth, decide_eq_true hb, decide_eq_true (show b < 32 by omega), Bool.true_and, Bool.true_and,
    Bool.false_or, BitVec.getLsbD_eq_getElem]

/-- With every exception masked an action that passes the checks completes. -/
theorem Action.run_allMasked {a : Action} {p : Parts} {s : State} (ha : a.Lawful p) (hr : Ready s.allMasked p.op)
    (he : operandFault p s.allMasked = none) :
    a.run p s.allMasked = complete (p.op.length p.raw.rm) ((a.write s).withMxcsr
      (s.allMasked.mxcsr ||| (effectiveFlags p.raw.rm.loc (a.flags s)).setWidth 32)) := by
  have hc := sameControls_allMasked p.op s
  have hflags : a.flags s.allMasked = a.flags s := ha.flags_eq s _ hc
  have hwrite : a.write s.allMasked = (a.write s).withMxcsr s.allMasked.mxcsr := ha.write_eq s _ hc
  rw [a.run_ready hr he, signal_quiet (.inr (by simp)), hflags, hwrite]
  rfl

/-- No memory fault is #UD or #XM (spec/20_memory.md R69, R70). -/
theorem memFault_kind {s : State} {m : MemAccess} {e : Exc} (h : s.memFault m = some e) : e ≠ .ud ∧ e ≠ .xm := by
  unfold State.memFault at h
  split at h
  · cases h
    split <;> decide
  · split at h
    · cases h
      exact ⟨nofun, nofun⟩
    · split at h
      · cases h
        decide
      · cases h

theorem load_error {s : State} {m : MemAccess} {e : Exc} (h : s.load m = .error e) : s.memFault m = some e := by
  unfold State.load at h
  split at h
  · cases h; assumption
  · cases h

theorem source_error_kind {s : State} {op : Op} {vl : VL} {raw : Raw} {e : Exc} (h : s.source op vl raw = .error e) :
    e ≠ .ud ∧ e ≠ .xm := by
  unfold State.source at h
  split at h
  · cases h
  · cases h
  · cases h
  · exact memFault_kind (load_error h)
  · split at h
    · cases h
      exact memFault_kind (load_error ‹_›)
    · cases h

theorem storeFault_kind {s : State} {op : Op} {rm : RM} {e : Exc} (h : s.storeFault op rm = some e) :
    e ≠ .ud ∧ e ≠ .xm := by
  unfold State.storeFault at h
  split at h
  · cases h
  · cases h
  · cases h
  · exact memFault_kind h
  · exact memFault_kind h

theorem operandFault_kind {p : Parts} {s : State} {e : Exc} (h : operandFault p s = some e) : e ≠ .ud ∧ e ≠ .xm := by
  unfold operandFault at h
  split at h
  · exact storeFault_kind h
  · split at h
    · cases h
      exact source_error_kind ‹_›
    · cases h

/-- A form that may run meets none of the #UD conditions. -/
theorem Ready.not_undefined {s : State} {op : Op} (h : Ready s op) : s.undefinedHere op.info.feature ≠ true := by
  intro hu
  have hraise : raise .ud s = .next s := (guarded_undefined hu).symm.trans (guarded_ready h)
  exact raise_ne_next _ _ _ hraise

/-- The reasons for which an instruction raises an exception. -/
theorem exec_fault {i : Instr} {s : State} {f : Fault} (h : exec i s = .fault f) :
    f.exc = .ud ∧ ¬ Ready s i.op ∨ f.exc = .nm ∨ operandFault i.parts s = some f.exc ∨
      f.exc = if s.osxmmexcpt then .xm else .ud := by
  have ho := exec_outcome i s
  generalize exec i s = o at h ho
  cases ho with
  | undefined hu => exact .inl ⟨(raise_eq_fault h).1, fun hr => hr.not_undefined hu⟩
  | unavailable => exact .inr (.inl (raise_eq_fault h).1)
  | memory e _ he => exact .inr (.inr (.inl (by rw [he, (raise_eq_fault h).1])))
  | simd => exact .inr (.inr (.inr (raise_eq_fault h).1))
  | overflow | done => cases h

/-- Settles O17: DAZ and RC are those of the masked run, so both runs signal and write the same. -/
theorem osxmmexcptSelects : Obligations.OsxmmexcptSelects := by
  refine fun i s => ⟨fun t h => ?_, fun f h => ?_⟩
  · obtain ⟨a, ha, hrun⟩ := exec_actsAs i
    obtain ⟨-, -, hr, he, -⟩ := exec_next h
    rw [hrun, a.run_allMasked ha hr he] at h
    obtain ⟨hp, rfl⟩ := complete_next h
    have hF := flags_of_allMasked s (effectiveFlags i.parts.raw.rm.loc (a.flags s))
    have hr' : Ready s i.parts.op := Ready.of_withMxcsr hr
    have he' : operandFault i.parts s = none := (operandFault_withMxcsr i.parts s _).symm.trans he
    dsimp only [State.advance_mxcsr, State.withMxcsr]
    rw [hF, hrun, a.run_ready hr' he', signal_eq]
    refine if_congr Iff.rfl rfl ?_
    exact complete_fits hp
  · obtain ⟨hf, hn⟩ | hf | hf | hf := exec_fault h
    · exact ⟨fun h' => absurd (hf.symm.trans h') (by decide), fun _ hr => absurd hr hn⟩
    · exact ⟨fun h' => absurd (hf.symm.trans h') (by decide), fun h' => absurd (hf.symm.trans h') (by decide)⟩
    · obtain ⟨hud, hxm⟩ := operandFault_kind hf
      exact ⟨fun h' => absurd h' hxm, fun h' => absurd h' hud⟩
    · cases hb : s.osxmmexcpt with
      | true =>
        rw [hb, if_pos rfl] at hf
        exact ⟨fun _ => hb, fun h' => absurd (hf.symm.trans h') (by decide)⟩
      | false =>
        rw [hb, if_neg Bool.false_ne_true] at hf
        exact ⟨fun h' => absurd (hf.symm.trans h') (by decide), fun _ _ => hb⟩

/-! ## Independence of MXCSR -/

theorem outMapState_raise (f : State → State) (e : Exc) (s : State) :
    outMapState f (raise e s) = raise e (f s) := by
  cases e <;> rfl

theorem guarded_withMxcsr (op : Op) (s : State) (m : BitVec 32) (rest : Out) :
    guarded op (s.withMxcsr m) (outMapState (State.withMxcsr · m) rest) =
      outMapState (State.withMxcsr · m) (guarded op s rest) := by
  have hu : (s.withMxcsr m).undefinedHere op.info.feature = s.undefinedHere op.info.feature := rfl
  have ht : (s.withMxcsr m).ts = s.ts := rfl
  simp only [guarded, hu, ht, apply_ite (outMapState (State.withMxcsr · m)), outMapState_raise]

theorem faultOr_withMxcsr (p : Parts) (s : State) (m : BitVec 32) (rest : Out) :
    faultOr p (s.withMxcsr m) (outMapState (State.withMxcsr · m) rest) =
      outMapState (State.withMxcsr · m) (faultOr p s rest) := by
  have hm := operandFault_withMxcsr p s m
  cases h : operandFault p s with
  | some e => rw [faultOr_some h, faultOr_some (hm.trans h), outMapState_raise]
  | none => rw [faultOr_none h, faultOr_none (hm.trans h)]

theorem complete_withMxcsr (n : Nat) (s : State) (m : BitVec 32) :
    complete n (s.withMxcsr m) = outMapState (State.withMxcsr · m) (complete n s) := by
  have hp : (s.withMxcsr m).pcFits n = s.pcFits n := rfl
  unfold complete
  rw [hp]
  split <;> rfl

/-- Settles O23: these forms signal no flag and read no control of MXCSR. -/
theorem mxcsrIndependent : Obligations.MxcsrIndependent := by
  intro i s m h
  obtain ⟨a, ha, hrun⟩ := exec_actsAs i
  have hop : i.parts.op.ignoresMxcsr = true := (Op.ignoresMxcsr_iff _).2 h
  have hc : SameControls i.parts.op s m := fun h' => absurd hop (by rw [h']; decide)
  have hflags : ∀ s, a.flags s = 0 := fun s =>
    eq_zero_of_within_nil (Op.settable_of_ignoresMxcsr hop ▸ ha.settable s)
  change exec i (s.withMxcsr m) = outMapState (State.withMxcsr · m) (exec i s)
  rw [hrun, hrun, Action.run, Action.run, ← guarded_withMxcsr, ← faultOr_withMxcsr]
  simp only [hflags, signal_zero, ha.write_eq s m hc]
  rw [← complete_withMxcsr]
  rfl

end Sys2Proof.Machine
end

section
/-! PROOFS. The access an instruction makes to memory: the table of operand sizes, which bytes are accessed, the effective
address, the memory faults and their order, and the value a source then has (spec/20_memory.md). -/

namespace Sys2Proof

/-! ## The table of operand sizes (spec/20_memory.md R65) -/

theorem VL.bytes_eq (vl : VL) : vl.bytes = vl.bits / 8 := by cases vl <;> rfl

theorem VL.half_bytes_eq (vl : VL) : vl.bytes / 2 = vl.bits / 16 := by cases vl <;> rfl

theorem VL.bytes_le (vl : VL) : vl.bytes ≤ 64 := by cases vl <;> decide

/-- The memory operand is one element, whatever the vector length. -/
def Op.single (op : Op) : Bool := op.info.tuple == .scalar || op.info.tuple == .tuple1

theorem Op.memBytes_single {op : Op} (h : op.single = true) (vl : VL) : op.memBytes vl = op.info.elem := by
  simp only [Op.single, Bool.or_eq_true, beq_iff_eq] at h
  obtain h | h := h <;> rw [Op.memBytes, h]

theorem Op.memBytes_half {op : Op} (h : op.info.tuple = .half) (vl : VL) : op.memBytes vl = vl.bits / 16 := by
  rw [Op.memBytes, h]
  exact vl.half_bytes_eq

theorem Op.memBytes_full {op : Op} (hs : op.single = false) (hh : op.info.tuple ≠ .half) (vl : VL) :
    op.memBytes vl = vl.bits / 8 := by
  rw [← vl.bytes_eq, Op.memBytes]
  rw [Op.single] at hs
  cases ht : op.info.tuple with
  | full | fullMem => rfl
  | half => exact absurd ht hh
  | scalar | tuple1 => rw [ht] at hs; exact absurd hs (by decide)

theorem Op.half_iff_mem (op : Op) :
    op.info.tuple = .half ↔ op ∈ [.vcvthf82ph, .vcvttps2qqs, .vcvttps2uqqs] := by
  cases op <;> decide

theorem Op.single_word_iff_mem (op : Op) :
    op.single = true ∧ op.info.elem = 2 ↔
      op ∈ [.vcomisbf16, .vcomxsh, .vucomxsh, .vminmaxsh, .vmovwLoad, .vmovwStore] := by
  cases op <;> decide

theorem Op.single_dword_iff_mem (op : Op) :
    op.single = true ∧ op.info.elem = 4 ↔
      op ∈ [.vcomxss, .vucomxss, .vminmaxss, .vcvttss2sisR32, .vcvttss2sisR64, .vcvttss2usisR32,
        .vcvttss2usisR64, .vmovdLoad, .vmovdStore] := by
  cases op <;> decide

theorem Op.single_qword_iff_mem (op : Op) :
    op.single = true ∧ op.info.elem = 8 ↔
      op ∈ [.vcomxsd, .vucomxsd, .vminmaxsd, .vcvttsd2sisR32, .vcvttsd2sisR64, .vcvttsd2usisR32,
        .vcvttsd2usisR64] := by
  cases op <;> decide

theorem Op.elem_of_single {op : Op} (h : op.single = true) :
    op.info.elem = 2 ∨ op.info.elem = 4 ∨ op.info.elem = 8 := by
  revert h
  cases op <;> decide

theorem Op.elem_of_bcst {op : Op} (h : op.info.bcst = true) :
    op.info.elem =
      (if op ∈ [.vcvt2ps2phx, .vdphphs, .vpdpbssd, .vpdpbssds, .vpdpbsud, .vpdpbsuds, .vpdpbuud, .vpdpbuuds, .vpdpwsud,
         .vpdpwsuds, .vpdpwusd, .vpdpwusds, .vpdpwuud, .vpdpwuuds, .vminmaxps, .vcvtps2ibs, .vcvtps2iubs, .vcvttps2ibs,
         .vcvttps2iubs, .vcvttps2dqs, .vcvttps2udqs, .vcvttps2qqs, .vcvttps2uqqs] then 4
       else if op ∈ [.vminmaxpd, .vcvttpd2dqs, .vcvttpd2qqs, .vcvttpd2udqs, .vcvttpd2uqqs] then 8
       else 2) := by
  revert h
  cases op <;> decide

/-- Settles O6: the tuple type decides the size, and the lists are those of the tuple types and element sizes. -/
theorem operandSizes : Obligations.OperandSizes := by
  refine fun op vl => ⟨?_, Op.elem_of_bcst⟩
  simp only [← Op.half_iff_mem, ← Op.single_word_iff_mem, ← Op.single_dword_iff_mem, ← Op.single_qword_iff_mem]
  by_cases hh : op.info.tuple = .half
  · rw [if_pos hh, Op.memBytes_half hh]
  · rw [if_neg hh]
    cases hs : op.single with
    | false => simp [Op.memBytes_full hs hh]
    | true =>
      rw [Op.memBytes_single hs]
      obtain he | he | he := Op.elem_of_single hs <;> simp [he]

theorem Op.memBytes_le (op : Op) (vl : VL) : op.memBytes vl ≤ 64 := by
  have hv := vl.bytes_le
  have hb := vl.bytes_eq
  cases hs : op.single with
  | true =>
    rw [Op.memBytes_single hs]
    obtain he | he | he := Op.elem_of_single hs <;> omega
  | false =>
    by_cases hh : op.info.tuple = .half
    · rw [Op.memBytes_half hh]; omega
    · rw [Op.memBytes_full hs hh]; omega

theorem Op.elem_mem_of_bcst {op : Op} (h : op.info.bcst = true) : op.info.elem ∈ [2, 4, 8] := by
  rw [Op.elem_of_bcst h]
  split_ifs <;> decide

/-! ## The store forms (spec/48_partial_copy.md R412, R414) -/

theorem Op.store_iff (op : Op) : op.target = .store ↔ op = .vmovdStore ∨ op = .vmovwStore := by
  cases op <;> decide

theorem Op.single_of_store {op : Op} (h : op.target = .store) : op.single = true := by
  obtain rfl | rfl := op.store_iff.1 h <;> rfl

theorem Op.suppresses_of_store {op : Op} (h : op.target = .store) : op.info.cls.suppresses = false := by
  obtain rfl | rfl := op.store_iff.1 h <;> rfl

theorem Op.bcst_of_store {op : Op} (h : op.target = .store) : op.info.bcst = false := by
  obtain rfl | rfl := op.store_iff.1 h <;> rfl

/-- A store writes the bytes of its memory operand. -/
theorem Op.destBits_of_store {op : Op} (h : op.target = .store) (vl : VL) : op.destBits vl / 8 = op.info.elem := by
  obtain rfl | rfl := op.store_iff.1 h <;> simp [Op.destBits, Op.info]

theorem ExcClass.suppresses_iff (c : ExcClass) : c.suppresses = true ↔ c = .e2 ∨ c = .e3 ∨ c = .e4 := by
  cases c <;> decide

end Sys2Proof

namespace Sys2Proof.Machine

/-! ## The access of an instruction -/

theorem memoryAccess_addr {i : Instr} {s : State} {m : MemAccess} (h : memoryAccess i s = some m) :
    ∃ a, i.parts.raw.rm.loc.addr = some a := by
  unfold memoryAccess at h
  split at h
  · cases h
  · cases h
  · cases h
  · rename_i a hl; exact ⟨a, by rw [hl]; rfl⟩
  · rename_i a hl; exact ⟨a, by rw [hl]; rfl⟩

/-- The access of an instruction whose r/m operand is memory: a write for the store forms, else a read. -/
theorem memoryAccess_eq {i : Instr} {a : Addr} (ha : i.parts.raw.rm.loc.addr = some a) (s : State) :
    memoryAccess i s = some (if i.op.target = .store then s.destAccess i.op i.parts.raw.rm a
      else s.sourceAccess i.op i.parts.vl i.parts.raw.rm.loc.isBcst i.parts.raw a) := by
  cases hl : i.parts.raw.rm.loc with
  | reg | regEr | regSae => rw [hl] at ha; cases ha
  | mem | bcst =>
    rw [hl] at ha
    cases ha
    simp only [memoryAccess, hl, Loc.isBcst, apply_ite some]

theorem memoryAccess_store {i : Instr} {s : State} {m : MemAccess} {a : Addr}
    (ha : i.parts.raw.rm.loc.addr = some a) (hm : memoryAccess i s = some m) (ht : i.op.target = .store) :
    m = s.destAccess i.op i.parts.raw.rm a := by
  rw [memoryAccess_eq ha, if_pos ht] at hm
  exact (Option.some.inj hm).symm

theorem memoryAccess_source {i : Instr} {s : State} {m : MemAccess} {a : Addr}
    (ha : i.parts.raw.rm.loc.addr = some a) (hm : memoryAccess i s = some m) (ht : i.op.target ≠ .store) :
    m = s.sourceAccess i.op i.parts.vl i.parts.raw.rm.loc.isBcst i.parts.raw a := by
  rw [memoryAccess_eq ha, if_neg ht] at hm
  exact (Option.some.inj hm).symm

/-- The size of a store's operand does not depend on the vector length. -/
theorem destAccess_size {op : Op} (h : op.target = .store) (s : State) (rm : RM) (a : Addr) (vl : VL) :
    (s.destAccess op rm a).size = op.memBytes vl :=
  (Op.memBytes_single (Op.single_of_store h) vl).symm

/-! ## Which bytes are accessed -/

/-- The byte at an offset of the operand is accessed: always, but under fault suppression only if the write mask selects
its element, or for a broadcast any element (spec/20_memory.md R71, R72). -/
def accesses (i : Instr) (s : State) (o : Nat) : Bool :=
  !i.op.info.cls.suppresses ||
    (if i.parts.raw.rm.loc.isBcst then (List.range (i.op.memCount i.parts.vl)).any (s.active i.parts.raw.aaa)
    else s.active i.parts.raw.aaa (o / i.op.info.elem))

theorem accesses_unsuppressed {i : Instr} (h : i.op.info.cls.suppresses = false) (s : State) (o : Nat) :
    accesses i s o = true := by
  rw [accesses, h]; rfl

theorem accesses_full {i : Instr} (hc : i.op.info.cls.suppresses = true) (hb : i.parts.raw.rm.loc.isBcst = false)
    (s : State) (o : Nat) : accesses i s o = s.active i.parts.raw.aaa (o / i.op.info.elem) := by
  simp [accesses, hc, hb]

theorem accesses_bcst {i : Instr} (hc : i.op.info.cls.suppresses = true) (hb : i.parts.raw.rm.loc.isBcst = true)
    (s : State) (o : Nat) :
    accesses i s o = (List.range (i.op.memCount i.parts.vl)).any (s.active i.parts.raw.aaa) := by
  simp [accesses, hc, hb]

theorem accesses_iff (i : Instr) (s : State) (o : Nat) :
    accesses i s o = true ↔ (i.op.info.cls.suppresses = true →
      if i.parts.raw.rm.loc.isBcst then ∃ j, j < i.op.memCount i.parts.vl ∧ s.active i.parts.raw.aaa j = true
      else s.active i.parts.raw.aaa (o / i.op.info.elem) = true) := by
  cases hc : i.op.info.cls.suppresses with
  | false => simp [accesses_unsuppressed hc]
  | true =>
    cases hb : i.parts.raw.rm.loc.isBcst with
    | false => simp [accesses_full hc hb]
    | true => simp [accesses_bcst hc hb]

/-- The offsets of an access are those below its size that are accessed, lowest first. -/
theorem memoryAccess_offs {i : Instr} {s : State} {m : MemAccess} (h : memoryAccess i s = some m) :
    m.offs = (List.range m.size).filter (accesses i s) := by
  obtain ⟨a, ha⟩ := memoryAccess_addr h
  by_cases ht : i.op.target = .store
  · rw [memoryAccess_store ha h ht]
    exact (List.filter_eq_self.2 fun o _ => accesses_unsuppressed (Op.suppresses_of_store ht) s o).symm
  · rw [memoryAccess_source ha h ht]
    unfold State.sourceAccess fullOffsets bcstOffsets
    cases hc : i.op.info.cls.suppresses with
    | false =>
      rw [List.filter_eq_self.2 fun o _ => accesses_unsuppressed hc s o]
      split <;> rfl
    | true =>
      cases hb : i.parts.raw.rm.loc.isBcst with
      | false => simp [funext (accesses_full hc hb s)]
      | true =>
        rw [funext (accesses_bcst hc hb s)]
        cases (List.range (i.op.memCount i.parts.vl)).any (s.active i.parts.raw.aaa) <;> simp

theorem memoryAccess_offs_sorted {i : Instr} {s : State} {m : MemAccess} (h : memoryAccess i s = some m) :
    m.offs.Pairwise (· < ·) := by
  rw [memoryAccess_offs h]
  exact List.pairwise_lt_range.filter _

theorem memoryAccess_size {i : Instr} {s : State} {m : MemAccess} (h : memoryAccess i s = some m) :
    m.size = if i.parts.raw.rm.loc.isBcst = true ∧ i.op.target ≠ .store then i.op.info.elem
      else i.op.memBytes i.parts.vl := by
  obtain ⟨a, ha⟩ := memoryAccess_addr h
  by_cases ht : i.op.target = .store
  · rw [memoryAccess_store ha h ht, destAccess_size ht s _ a i.parts.vl, if_neg fun hb => hb.2 ht]
  · rw [memoryAccess_source ha h ht]
    simp [State.sourceAccess, ht]

/-- Settles O26: by the size and the offsets of the access. -/
theorem accessedBytes : Obligations.AccessedBytes := by
  refine fun i s m h => ⟨memoryAccess_size h, fun o => ?_⟩
  rw [memoryAccess_offs h, List.mem_filter, List.mem_range, accesses_iff, ExcClass.suppresses_iff]

/-! ## The effective address (spec/20_memory.md R62, R63) -/

/-- The segment that a legacy byte names. -/
def segmentNamed : LegacyPrefix → Option Seg
  | .seg g => some g
  | .addr32 => none

/-- The override in force is the last one (log entry 14). -/
theorem segOverride_eq_getLast? (ps : List LegacyPrefix) :
    segOverride ps = (ps.filterMap segmentNamed).getLast? := by
  induction ps with
  | nil => rfl
  | cons p ps ih =>
    cases p with
    | addr32 =>
      rw [segOverride, ih, List.filterMap_cons_none rfl]
      cases (ps.filterMap segmentNamed).getLast? <;> rfl
    | seg g =>
      rw [segOverride, ih, List.filterMap_cons_some (show segmentNamed (.seg g) = some g from rfl),
        List.getLast?_cons]
      cases (ps.filterMap segmentNamed).getLast? <;> rfl

/-- The linear address where displacements count in units of `n` bytes; `len` is the length of the instruction. -/
def linearScaled (s : State) (len n : Nat) (rm : RM) (a : Addr) : Address :=
  let off := s.offset (s.pc + BitVec.ofNat 64 len) n a
  if s.mode = .mode64 then s.segmentBase (operandSeg rm a) + (if .addr32 ∈ rm.pfx then low32 off else off)
  else low32 (s.segmentBase (operandSeg rm a) + low32 off)

theorem linear_eq_linearScaled (s : State) (op : Op) (vl : VL) (b : Bool) (rm : RM) (a : Addr) :
    s.linear op vl b rm a = linearScaled s (op.length rm) (op.dispScale vl b) rm a := by
  simp only [State.linear, linearScaled, List.contains_iff_mem]

/-- The segment and the address of an access; a byte displacement counts in operand sizes. -/
theorem memoryAccess_address {i : Instr} {s : State} {m : MemAccess} {a : Addr}
    (ha : i.parts.raw.rm.loc.addr = some a) (hm : memoryAccess i s = some m) :
    m.seg = operandSeg i.parts.raw.rm a ∧ m.ea = linearScaled s i.length m.size i.parts.raw.rm a := by
  by_cases ht : i.op.target = .store
  · rw [memoryAccess_store ha hm ht, destAccess_size ht s _ a .v128]
    exact ⟨rfl, linear_eq_linearScaled s _ _ _ _ a⟩
  · rw [memoryAccess_source ha hm ht]
    exact ⟨rfl, linear_eq_linearScaled s _ _ _ _ a⟩

theorem shiftLeft_eq_mul_two_pow (x : BitVec 64) (n : Nat) : x <<< n = x * 2 ^ n := by
  apply BitVec.eq_of_toNat_eq
  simp [BitVec.toNat_pow, Nat.shiftLeft_eq]

theorem indexValue_eq (s : State) (scale : BitVec 2) (x : GReg) :
    s.indexValue scale x = if x = 4 then 0 else s.general x * 2 ^ scale.toNat := by
  rw [State.indexValue, shiftLeft_eq_mul_two_pow]

/-- Settles O25: the parts of the address are those of the model's `linear`, for reads and writes alike. -/
theorem effectiveAddress : Obligations.EffectiveAddress := by
  intro i s m a ha hm low overrides standard disp index offset base
  obtain ⟨hseg, hea⟩ := memoryAccess_address ha hm
  have hsegment : operandSeg i.parts.raw.rm a = overrides.getLast?.getD standard := by
    have hover : overrides.getLast? = segOverride i.parts.raw.rm.pfx := (segOverride_eq_getLast? _).symm
    rw [hover, operandSeg]
    cases a <;> rfl
  have hbase : base = s.segmentBase (operandSeg i.parts.raw.rm a) := by
    rw [← hseg]
    rfl
  have hdisp : ∀ d, disp d = dispValue m.size d := fun d => by cases d <;> rfl
  have hindex : ∀ scale x, index scale x = s.indexValue scale x := fun scale x => (indexValue_eq s scale x).symm
  have hoffset : offset = s.offset (s.pc + BitVec.ofNat 64 i.length) m.size a := by
    cases a with
    | base b d => simp only [offset, hdisp, State.offset]
    | disp32 d =>
      simp only [offset, State.offset]
      split
      · rfl
      · exact BitVec.zero_add _
    | sib scale x b d => simp only [offset, hdisp, hindex, State.offset]
    | sibDisp32 scale x d => simp only [offset, hindex, State.offset]
  refine ⟨hseg.trans hsegment, fun h64 => ?_, fun h64 => ?_⟩
  · rw [hea, linearScaled, if_pos h64, ← hbase, ← hoffset]
    rfl
  · rw [hea, linearScaled, if_neg h64, ← hbase, ← hoffset]
    rfl

/-! ## Memory faults (spec/20_memory.md R69, R70) -/

theorem RegionKind.isIllegal_iff (k : RegionKind) : k.isIllegal = true ↔ k = .illegal := by
  cases k <;> simp [RegionKind.isIllegal]

theorem RegionKind.ne_illegal_of_isMapped {k : RegionKind} (h : k.isMapped = true) : k ≠ .illegal := by
  rintro rfl
  cases h

theorem RegionKind.faultCode_of_isMapped {k : RegionKind} (h : k.isMapped = true) : k.faultCode = none := by
  cases k with
  | mapped => rfl
  | illegal | pageFault => cases h

theorem memFault_illegal {s : State} {m : MemAccess} (h : ∃ o ∈ m.offs, m.kindAt s o = .illegal) :
    s.memFault m = some (if m.seg = .ss then .ss else .gp) := by
  obtain ⟨o, ho, hk⟩ := h
  rw [State.memFault, if_pos (List.any_eq_true.2 ⟨o, ho, (RegionKind.isIllegal_iff _).2 hk⟩)]

theorem any_isIllegal_eq_false {s : State} {m : MemAccess} (h : ∀ o ∈ m.offs, m.kindAt s o ≠ .illegal) :
    m.offs.any (fun o => (s.translate m o).isIllegal) = false :=
  List.any_eq_false.2 fun o ho hk => h o ho ((RegionKind.isIllegal_iff _).1 hk)

/-- Among offsets in rising order the first that faults is the lowest. -/
theorem findSome?_lowest {α : Type} {f : Nat → Option α} {l : List Nat} {o : Nat} {c : α} (hs : l.Pairwise (· < ·))
    (ho : o ∈ l) (hc : f o = some c) (hlow : ∀ p ∈ l, p < o → f p = none) : l.findSome? f = some c := by
  obtain ⟨before, after, rfl⟩ := List.append_of_mem ho
  refine List.findSome?_eq_some_iff.2 ⟨before, o, after, rfl, hc, fun p hp => ?_⟩
  exact hlow p (List.mem_append_left _ hp) ((List.pairwise_append.1 hs).2.2 p hp o List.mem_cons_self)

theorem memFault_pageFault {s : State} {m : MemAccess} {o : Nat} {c : BitVec 32} (hs : m.offs.Pairwise (· < ·))
    (hi : ∀ o' ∈ m.offs, m.kindAt s o' ≠ .illegal) (ho : o ∈ m.offs) (hc : m.kindAt s o = .pageFault c)
    (hlow : ∀ o' ∈ m.offs, o' < o → (m.kindAt s o').isMapped = true) : s.memFault m = some (.pf c) := by
  have hfirst : m.offs.findSome? (fun o => (s.translate m o).faultCode) = some c :=
    findSome?_lowest hs ho (congrArg RegionKind.faultCode hc)
      fun p hp hlt => RegionKind.faultCode_of_isMapped (hlow p hp hlt)
  rw [State.memFault, any_isIllegal_eq_false hi, hfirst]
  rfl

theorem memFault_mapped {s : State} {m : MemAccess} (h : ∀ o ∈ m.offs, (m.kindAt s o).isMapped = true) :
    s.memFault m = if s.misaligned m then some .ac else none := by
  have hi := any_isIllegal_eq_false fun o ho => RegionKind.ne_illegal_of_isMapped (h o ho)
  have hc : m.offs.findSome? (fun o => (s.translate m o).faultCode) = none :=
    List.findSome?_eq_none_iff.2 fun o ho => RegionKind.faultCode_of_isMapped (h o ho)
  rw [State.memFault, hi, hc]
  rfl

theorem misaligned_iff (s : State) (m : MemAccess) :
    s.misaligned m = true ↔ (s.cr0.getLsbD 18 = true ∧ s.eflags.getLsbD 18 = true ∧ s.cpl = 3 ∧ m.size ∈ [2, 4, 8]) ∧
      m.ea.toNat % m.size ≠ 0 ∧ m.offs ≠ [] := by
  simp [State.misaligned, State.acEnabled, and_assoc, or_assoc]

/-! ## The fault of the operand -/

theorem load_ok {s : State} {m : MemAccess} (h : s.memFault m = none) :
    s.load m = .ok (BitVec.ofNat 512 (s.loadBytes m m.offs)) := by
  rw [State.load, h]

theorem load_fault {s : State} {m : MemAccess} {e : Exc} (h : s.memFault m = some e) : s.load m = .error e := by
  rw [State.load, h]

theorem source_mem (s : State) (op : Op) (vl : VL) {raw : Raw} {a : Addr} (h : raw.rm.loc = .mem a) :
    s.source op vl raw = s.load (s.sourceAccess op vl false raw a) := by
  rw [State.source, h]

/-- A broadcast element that can be read stands in every position. -/
theorem source_bcst {s : State} {op : Op} {vl : VL} {raw : Raw} {a : Addr} {v : Zmm} (h : raw.rm.loc = .bcst a)
    (hv : s.load (s.sourceAccess op vl true raw a) = .ok v) :
    s.source op vl raw = .ok (replicateElem op.info.elem v) := by
  rw [State.source, h]
  simp only [hv]

theorem source_bcst_fault {s : State} {op : Op} {vl : VL} {raw : Raw} {a : Addr} {e : Exc} (h : raw.rm.loc = .bcst a)
    (he : s.load (s.sourceAccess op vl true raw a) = .error e) : s.source op vl raw = .error e := by
  rw [State.source, h]
  simp only [he]

theorem source_fault {s : State} {op : Op} {vl : VL} {raw : Raw} {a : Addr} {e : Exc} (ha : raw.rm.loc.addr = some a)
    (hf : s.memFault (s.sourceAccess op vl raw.rm.loc.isBcst raw a) = some e) : s.source op vl raw = .error e := by
  cases hl : raw.rm.loc with
  | reg | regEr | regSae => rw [hl] at ha; cases ha
  | mem =>
    rw [hl] at ha hf
    cases ha
    exact (source_mem s op vl hl).trans (load_fault hf)
  | bcst =>
    rw [hl] at ha hf
    cases ha
    exact source_bcst_fault hl (load_fault hf)

theorem source_ok {s : State} {op : Op} {vl : VL} {raw : Raw} {a : Addr} (ha : raw.rm.loc.addr = some a)
    (hf : s.memFault (s.sourceAccess op vl raw.rm.loc.isBcst raw a) = none) : ∃ x, s.source op vl raw = .ok x := by
  cases hl : raw.rm.loc with
  | reg | regEr | regSae => rw [hl] at ha; cases ha
  | mem =>
    rw [hl] at ha hf
    cases ha
    exact ⟨_, (source_mem s op vl hl).trans (load_ok hf)⟩
  | bcst =>
    rw [hl] at ha hf
    cases ha
    exact ⟨_, source_bcst hl (load_ok hf)⟩

/-- The fault of an instruction's operand is that of its access. -/
theorem operandFault_eq_memFault {i : Instr} {s : State} {m : MemAccess} (h : memoryAccess i s = some m) :
    operandFault i.parts s = s.memFault m := by
  obtain ⟨a, ha⟩ := memoryAccess_addr h
  by_cases ht : i.op.target = .store
  · rw [operandFault, if_pos (show i.parts.op.target = .store from ht), memoryAccess_store ha h ht, State.storeFault]
    cases hl : i.parts.raw.rm.loc with
    | reg | regEr | regSae => rw [hl] at ha; cases ha
    | mem | bcst => rw [hl] at ha; cases ha; rfl
  · have hs : i.parts.op.target ≠ .store := ht
    rw [operandFault, if_neg hs, memoryAccess_source ha h ht]
    cases hf : s.memFault (s.sourceAccess i.op i.parts.vl i.parts.raw.rm.loc.isBcst i.parts.raw a) with
    | some e => rw [show s.source i.parts.op _ _ = _ from source_fault ha hf]
    | none =>
      obtain ⟨x, hx⟩ := source_ok ha hf
      rw [show s.source i.parts.op _ _ = _ from hx]

/-- An instruction that may run raises the fault of its operand. -/
theorem exec_operandFault {i : Instr} {s : State} {e : Exc} (hr : Ready s i.op) (h : operandFault i.parts s = some e) :
    exec i s = raise e s := by
  obtain ⟨a, -, hrun⟩ := exec_actsAs i
  exact (hrun s).trans ((guarded_ready hr).trans (faultOr_some h _))

/-- Settles O27: the fault raised is that of the access, whose three checks come in this order. -/
theorem memoryFaultTaken : Obligations.MemoryFaultTaken := by
  intro i s m hr hm
  have hexec : ∀ e, s.memFault m = some e → exec i s = raise e s := fun e he =>
    exec_operandFault hr ((operandFault_eq_memFault hm).trans he)
  refine ⟨fun hi => hexec _ (memFault_illegal hi), fun o c hi ho hc hlow => hexec _ ?_,
    fun hmap hne ham hac hcpl hsize hea => hexec _ ?_⟩
  · exact memFault_pageFault (memoryAccess_offs_sorted hm) hi ho hc hlow
  · have hmis : s.misaligned m = true := (misaligned_iff s m).2 ⟨⟨ham, hac, hcpl, by simpa using hsize⟩, hea, hne⟩
    rw [memFault_mapped hmap, if_pos hmis]

/-! ## The value of a source (spec/20_memory.md R64, R66) -/

theorem loadBytes_append (s : State) (m : MemAccess) (k l : List Nat) :
    s.loadBytes m (k ++ l) = s.loadBytes m k + s.loadBytes m l := by
  induction k with
  | nil => simp [State.loadBytes]
  | cons o k ih =>
    rw [List.cons_append, State.loadBytes, State.loadBytes, ih]
    omega

/-- The bytes loaded at the selected offsets below `n` are the digits of the number, 0 where nothing is selected. -/
theorem loadBytes_filter_range (s : State) (m : MemAccess) (p : Nat → Bool) (n : Nat) :
    s.loadBytes m ((List.range n).filter p) = assembleNat 8 n fun o => if p o then m.byteAt s o else 0 := by
  induction n with
  | zero => rfl
  | succ n ih =>
    rw [List.range_succ, List.filter_append, loadBytes_append, ih, assembleNat]
    cases hp : p n <;> simp [hp, State.loadBytes, MemAccess.byteAt]

/-- An assembled vector is 0 at the elements above its own. -/
theorem lane_assemble_above (w n : Nat) (f : Nat → BitVec w) (i : Nat) (hi : n ≤ i) (h : w * n ≤ 512) :
    lane w i (assemble w n f) = 0 := by
  refine BitVec.eq_of_getLsbD_eq fun b _ => ?_
  have hle : w * n ≤ w * i + b := Nat.le_add_right_of_le (Nat.mul_le_mul_left w hi)
  rw [lane, BitVec.getLsbD_extractLsb', getLsbD_assemble_above w n f h _ hle]
  simp

/-- Byte `o` of what a load without a fault answers. -/
theorem lane_loaded {i : Instr} {s : State} {m : MemAccess} (hm : memoryAccess i s = some m) (hn : m.size ≤ 64)
    (o : Nat) : lane 8 o (BitVec.ofNat 512 (s.loadBytes m m.offs)) = if o ∈ m.offs then m.byteAt s o else 0 := by
  have hbytes : BitVec.ofNat 512 (s.loadBytes m m.offs) =
      assemble 8 m.size fun o => if accesses i s o then m.byteAt s o else 0 := by
    rw [memoryAccess_offs hm, loadBytes_filter_range]
    rfl
  have hle : 8 * m.size ≤ 512 := by omega
  rw [hbytes]
  by_cases ho : o < m.size
  · rw [lane_assemble _ _ _ _ ho hle]
    simp [memoryAccess_offs hm, ho]
  · rw [lane_assemble_above _ _ _ _ (Nat.le_of_not_lt ho) hle]
    simp [memoryAccess_offs hm, ho]

/-- An access to mapped bytes faults only where the alignment check applies to it. -/
theorem memFault_none {s : State} {m : MemAccess} (hmap : ∀ o ∈ m.offs, (m.kindAt s o).isMapped = true)
    (hac : s.cr0.getLsbD 18 = true ∧ s.eflags.getLsbD 18 = true ∧ s.cpl = 3 ∧ m.size ∈ [2, 4, 8] →
      m.ea.toNat % m.size = 0) : s.memFault m = none := by
  have hmis : ¬ s.misaligned m = true := fun h => by
    obtain ⟨hon, hea, -⟩ := (misaligned_iff s m).1 h
    exact hea (hac hon)
  rw [memFault_mapped hmap, if_neg hmis]

theorem source_register (s : State) (op : Op) (vl : VL) {raw : Raw} {r : VReg} (h : raw.rm.loc.register = some r) :
    s.source op vl raw = .ok (s.vec r) := by
  unfold State.source
  cases hl : raw.rm.loc with
  | reg | regEr | regSae => rw [hl] at h; cases h; rfl
  | mem | bcst => rw [hl] at h; cases h

/-- Settles O28: an access without a fault answers the bytes at its offsets as digits. -/
theorem sourceIsReadable : Obligations.SourceIsReadable := by
  refine fun i s => ⟨fun r hr => source_register s i.op i.parts.vl hr, fun m a ht hl hm hmap hac => ?_⟩
  have hacc : m = s.sourceAccess i.op i.parts.vl false i.parts.raw a :=
    (memoryAccess_source (congrArg Loc.addr hl) hm ht).trans (by rw [hl]; rfl)
  have hsize : m.size ≤ 64 := hacc ▸ i.op.memBytes_le i.parts.vl
  refine ⟨_, ?_, fun o _ => lane_loaded hm hsize o⟩
  rw [source_mem s i.op i.parts.vl hl, ← hacc]
  exact load_ok (memFault_none hmap hac)

/-- A byte of an element is a byte of the vector. -/
theorem lane_byte_of_lane {n o : Nat} (ho : o < n) (j : Nat) (x : Zmm) :
    (lane (8 * n) j x).extractLsb' (8 * o) 8 = lane 8 (n * j + o) x := by
  refine BitVec.eq_of_getLsbD_eq fun b hb => ?_
  have hin : 8 * o + b < 8 * n := by omega
  have hpos : 8 * n * j + (8 * o + b) = 8 * (n * j + o) + b := by ring
  simp only [lane, BitVec.getLsbD_extractLsb', hb, hin, hpos, decide_true, Bool.true_and]

/-- Byte `o` of every element of a replicated vector is byte `o` of the element. -/
theorem lane_byte_replicateElem {n o j : Nat} (ho : o < n) (hj : j < 64 / n) (v : Zmm) :
    lane 8 (n * j + o) (replicateElem n v) = lane 8 o v := by
  rw [← lane_byte_of_lane ho, lane_replicateElem n v j hj, lane_byte_of_lane ho, Nat.mul_zero, Nat.zero_add]

/-- Settles O29: the source is the replicated element, and its bytes are those of the one element loaded. -/
theorem broadcastReplicates : Obligations.BroadcastReplicates := by
  intro i s m a hb hl hm hact hmap hac
  have ht : i.op.target ≠ .store := fun ht => by rw [Op.bcst_of_store ht] at hb; cases hb
  have hacc : m = s.sourceAccess i.op i.parts.vl true i.parts.raw a :=
    (memoryAccess_source (congrArg Loc.addr hl) hm ht).trans (by rw [hl]; rfl)
  have hsize : m.size = i.op.info.elem := by rw [hacc]; rfl
  have helem := Op.elem_mem_of_bcst hb
  have hle : m.size ≤ 64 := by simp at helem; omega
  have hall : ∀ o, accesses i s o = true := fun o => (accesses_iff i s o).2 fun hc => by
    rw [hl]
    exact hact hc
  have hoffs : m.offs = List.range i.op.info.elem := by
    rw [memoryAccess_offs hm, hsize]
    exact List.filter_eq_self.2 fun o _ => hall o
  have hfault : s.memFault m = none :=
    memFault_none (fun o ho => hmap o (by simpa [hoffs] using ho)) fun ⟨ham, hef, hcpl, _⟩ => hac ⟨ham, hef, hcpl⟩
  have hload : s.load (s.sourceAccess i.op i.parts.vl true i.parts.raw a) = .ok _ := hacc ▸ load_ok hfault
  refine ⟨helem, hoffs, _, source_bcst hl hload, fun j o hj ho => ?_⟩
  rw [lane_byte_replicateElem ho hj, ← hacc, lane_loaded hm hle, if_pos (by simpa [hoffs] using ho)]

/-! ## The frame of memory -/

/-- Only a store to memory changes memory, and only at the bytes of its access. -/
theorem Effect.byteAt_other {i : Instr} {s u : State} {F : Flags} (h : Effect i.parts s F u)
    (hw : Machine.memWf s.mem = true) {a : Address}
    (hout : ∀ m o, i.op.target = .store → memoryAccess i s = some m → o < m.size → a ≠ s.physical m o) :
    u.byteAt a = s.byteAt a := by
  cases h with
  | vector | opmask | status | general => rfl
  | store ht =>
    obtain ⟨r, hr⟩ | ⟨b, -, hb⟩ := i.parts.raw.rm.loc.register_or_addr
    · rw [s.stored_register _ hr]
      rfl
    · rw [s.stored_memory _ hb, Op.destBits_of_store ht]
      refine State.byteAt_storeBytes_other hw _ _ _ a fun o ho => hout _ o ht ?_ ho
      exact (memoryAccess_eq hb s).trans (congrArg some (if_pos ht))

/-- Settles O21: by the frame of every effect; only a store's reaches memory. -/
theorem memoryFrame : Obligations.MemoryFrame := by
  intro i s t hw h a hout
  obtain ⟨F, u, -, -, -, hu, rfl⟩ := exec_next h
  exact hu.byteAt_other hw hout

end Sys2Proof.Machine
end

section
/-! PROOFS. The fields of an encoding: the bytes of EVEX, ModRM and SIB give their fields back, the code of an encoding
selects it, and an instruction and its parts determine each other (spec/30_encoding.md R92 to R96, R110, R117). -/

namespace Sys2Proof

/-! ## The bytes P0, P1 and P2 (R92, R93, R94) -/

theorem Evex.p0_fields (e : Evex) :
    e.p0.getLsbD 7 = !e.r ∧ e.p0.getLsbD 6 = !e.x ∧ e.p0.getLsbD 5 = !e.b ∧ e.p0.getLsbD 4 = !e.r' ∧
      e.p0.getLsbD 3 = e.p0b3 ∧ e.p0.extractLsb' 0 3 = e.mmm := by
  obtain ⟨r, x, b, r', p0b3, mmm⟩ := e
  dsimp only [Evex.p0]
  decide +revert +kernel

theorem Evex.p1_fields (e : Evex) :
    e.p1.getLsbD 7 = e.w ∧ e.p1.extractLsb' 3 4 = ~~~e.vvvv ∧ e.p1.getLsbD 2 = e.p1b2 ∧
      e.p1.extractLsb' 0 2 = e.pp := by
  obtain ⟨_, _, _, _, _, _, w, vvvv, p1b2, pp⟩ := e
  dsimp only [Evex.p1]
  decide +revert +kernel

theorem Evex.p2_fields (e : Evex) :
    e.p2.getLsbD 7 = e.z ∧ e.p2.extractLsb' 5 2 = e.ll ∧ e.p2.getLsbD 4 = e.bb ∧ e.p2.getLsbD 3 = !e.v' ∧
      e.p2.extractLsb' 0 3 = e.aaa := by
  obtain ⟨_, _, _, _, _, _, _, _, _, _, z, ll, bb, v', aaa⟩ := e
  dsimp only [Evex.p2]
  decide +revert +kernel

/-- P0, P1 and P2 of the fields read back as the fields. -/
@[simp] theorem Evex.ofBytes_bytes (e : Evex) : Evex.ofBytes e.p0 e.p1 e.p2 = e := by
  obtain ⟨hr, hx, hb, hr', h3, hm⟩ := e.p0_fields
  obtain ⟨hw, hv, h2, hp⟩ := e.p1_fields
  obtain ⟨hz, hl, hbb, hv', ha⟩ := e.p2_fields
  simp only [Evex.ofBytes, hr, hx, hb, hr', h3, hm, hw, hv, h2, hp, hz, hl, hbb, hv', ha, Bool.not_not, BitVec.not_not]

/-! ## ModRM, SIB and register numbers (R95, R96) -/

/-- The three fields of a ModRM or SIB byte. -/
theorem byte_233_fields (a : BitVec 2) (b c : BitVec 3) :
    (a ++ b ++ c : Byte).extractLsb' 6 2 = a ∧ (a ++ b ++ c : Byte).extractLsb' 3 3 = b ∧
      (a ++ b ++ c : Byte).extractLsb' 0 3 = c := by
  decide +revert +kernel

theorem Parts.modrm_mod (p : Parts) : p.modrm.extractLsb' 6 2 = p.raw.rm.loc.modRm.1 := (byte_233_fields _ _ _).1

theorem Parts.modrm_reg (p : Parts) : p.modrm.extractLsb' 3 3 = p.raw.reg.setWidth 3 := (byte_233_fields _ _ _).2.1

theorem Parts.modrm_rm (p : Parts) : p.modrm.extractLsb' 0 3 = p.raw.rm.loc.modRm.2 := (byte_233_fields _ _ _).2.2

/-- A vector register number from its extension bits and its low three bits. -/
theorem vreg_of_bits (r : VReg) : bit r[4] ++ bit r[3] ++ r.setWidth 3 = r := by
  decide +revert

/-- A general register number from its extension bit and its low three bits. -/
theorem greg_of_bits (r : GReg) : bit r[3] ++ r.setWidth 3 = r := by
  decide +revert

theorem setWidth_bit_append (b : Bool) (r : BitVec 3) : (bit b ++ r : GReg).setWidth 3 = r := by
  decide +revert

theorem vvvv_of_bits (r : VReg) : bit r[4] ++ r.setWidth 4 = r := by
  decide +revert

/-! ## The code of an encoding (R110, R117) -/

theorem Op.mem_all (op : Op) : op ∈ Op.all := by cases op <;> decide

theorem Op.all_found :
    (Op.all.all fun op => Op.find op.info.map op.info.pp op.info.w op.info.opcode == some op) = true := by
  decide +kernel

/-- No two encodings share map, pp, W and opcode. -/
theorem Op.find_info (op : Op) : Op.find op.info.map op.info.pp op.info.w op.info.opcode = some op :=
  beq_iff_eq.1 (List.all_eq_true.1 Op.all_found op op.mem_all)

theorem Op.select_mode64 (e : Evex) (opcode : Byte) : Op.select .mode64 e opcode = Op.find e.mmm e.pp e.w opcode := by
  simp [Op.select]

/-- Embedded rounding is on packed forms only. -/
theorem Op.packed_of_er {op : Op} (h : op.info.regB = .er) : op.info.len = .packed := by
  revert h
  cases op <;> decide

/-! ## Instructions and their parts -/

@[simp] theorem VecOp3.vec3_raw (o : VecOp3) (imm : BitVec 8) : (o.raw imm).vec3 = o := rfl
@[simp] theorem VecOp2.vec2_raw (o : VecOp2) (imm : BitVec 8) : (o.raw imm).vec2 = o := rfl
@[simp] theorem MaskOp3.mask3_raw (o : MaskOp3) (imm : BitVec 8) : (o.raw imm).mask3 = o := by
  simp [MaskOp3.raw, Raw.mask3]
@[simp] theorem MaskOp2.mask2_raw (o : MaskOp2) (imm : BitVec 8) : (o.raw imm).mask2 = o := by
  simp [MaskOp2.raw, Raw.mask2]
@[simp] theorem RegRm.regRm_raw (o : RegRm) : o.raw.regRm = o := rfl
@[simp] theorem GprRm.gprRm_raw (o : GprRm) : o.raw.gprRm = o := by simp [GprRm.raw, Raw.gprRm]
@[simp] theorem VecOp3.imm_raw (o : VecOp3) (imm : BitVec 8) : (o.raw imm).imm = imm := rfl
@[simp] theorem VecOp2.imm_raw (o : VecOp2) (imm : BitVec 8) : (o.raw imm).imm = imm := rfl
@[simp] theorem MaskOp3.imm_raw (o : MaskOp3) (imm : BitVec 8) : (o.raw imm).imm = imm := rfl
@[simp] theorem MaskOp2.imm_raw (o : MaskOp2) (imm : BitVec 8) : (o.raw imm).imm = imm := rfl

/-- The parts of a form give it back. -/
theorem Instr.instr_parts (i : Instr) : i.parts.instr = i := by
  cases i <;> simp [Instr.parts, Parts.instr]

/-- The bits of `ModRM.reg` that a destination of this kind has. -/
def DestKind.bits : DestKind → Nat
  | .vector => 5
  | .opmask => 3
  | .general => 4

/-- The parts with 0 in every field, and 128 bits as the length, where the form has none. -/
def Parts.normal (p : Parts) : Parts where
  op := p.op
  vl := if p.op.info.len = .packed then p.vl else .v128
  raw := {
    reg  := (p.raw.reg.setWidth p.op.info.dest.bits).setWidth 5
    vvvv := if p.op.info.usesV then p.raw.vvvv else 0
    rm   := p.raw.rm
    aaa  := if p.op.info.masked then p.raw.aaa else 0
    z    := if p.op.info.zeroing then p.raw.z else false
    imm  := if p.op.hasImm then p.raw.imm else 0 }

/-- What a form keeps of its parts. -/
theorem Parts.parts_instr (p : Parts) : p.instr.parts = p.normal := by
  obtain ⟨op, vl, raw⟩ := p
  cases op <;> rfl

theorem Parts.op_instr (p : Parts) : p.instr.op = p.op := by
  rw [Instr.op, p.parts_instr, Parts.normal]

/-- The parts have no field that their form does not have. -/
structure Parts.Shaped (p : Parts) : Prop where
  vl   : p.op.info.len ≠ .packed → p.vl = .v128
  reg  : (p.raw.reg.setWidth p.op.info.dest.bits).setWidth 5 = p.raw.reg
  vvvv : p.op.info.usesV = false → p.raw.vvvv = 0
  aaa  : p.op.info.masked = false → p.raw.aaa = 0
  z    : p.op.info.zeroing = false → p.raw.z = false
  imm  : p.op.hasImm = false → p.raw.imm = 0

theorem Parts.shaped_iff (p : Parts) : p.Shaped ↔ p.normal = p := by
  obtain ⟨op, vl, reg, vvvv, rm, aaa, z, imm⟩ := p
  simp only [Parts.normal, Parts.mk.injEq, Raw.mk.injEq, true_and, ite_eq_left_iff, Bool.not_eq_true]
  exact ⟨fun ⟨hvl, hreg, hv, ha, hz, hi⟩ => ⟨fun h => (hvl h).symm, hreg, fun h => (hv h).symm, fun h => (ha h).symm,
      fun h => (hz h).symm, fun h => (hi h).symm⟩,
    fun ⟨hvl, hreg, hv, ha, hz, hi⟩ => ⟨fun h => (hvl h).symm, hreg, fun h => (hv h).symm, fun h => (ha h).symm,
      fun h => (hz h).symm, fun h => (hi h).symm⟩⟩

theorem Parts.Shaped.parts_instr {p : Parts} (h : p.Shaped) : p.instr.parts = p :=
  p.parts_instr.trans (p.shaped_iff.1 h)

theorem Instr.shaped (i : Instr) : i.parts.Shaped := by
  rw [Parts.shaped_iff, ← Parts.parts_instr, i.instr_parts]

end Sys2Proof
end

section
/-! PROOFS. What the encoder writes reads back: legacy bytes, displacement, address, operand fields, and the whole
instruction; the statements that follow from it (spec/30_encoding.md R91 to R105, R108, R114). -/

namespace Sys2Proof

/-! ## Legacy bytes (R91) -/

theorem legacyPrefix?_byte (p : LegacyPrefix) : legacyPrefix? p.byte = some p := by
  cases p with
  | seg s => cases s <;> decide
  | addr32 => decide

/-- Legacy bytes before 62H are read to the end. -/
theorem scanLead_legacy (m : Mode) (pfx : List LegacyPrefix) (bs : List Byte) :
    scanLead m (pfx.map LegacyPrefix.byte ++ 0x62 :: bs) = ⟨pfx, false, 0x62 :: bs⟩ := by
  induction pfx with
  | nil =>
    have hl : legacyPrefix? 0x62 = none := by decide
    have hf : forbiddenLead m 0x62 = false := by cases m <;> decide
    rw [List.map_nil, List.nil_append, scanLead]
    simp only [hl, hf, Bool.false_eq_true, if_false]
  | cons p pfx ih => simp only [List.map_cons, List.cons_append, scanLead, legacyPrefix?_byte, ih]

/-- LOCK, F2, F3, 66 and REX (R91). -/
theorem forbiddenLead_mode64 {b : Byte}
    (h : b = 0xF0 ∨ b = 0xF2 ∨ b = 0xF3 ∨ b = 0x66 ∨ (0x40 ≤ b ∧ b ≤ 0x4F)) :
    legacyPrefix? b = none ∧ forbiddenLead .mode64 b = true := by
  revert h
  decide +revert +kernel

theorem scanLead_forbidden {m : Mode} {b : Byte} (hl : legacyPrefix? b = none) (hf : forbiddenLead m b = true)
    (bs : List Byte) : scanLead m (b :: bs) = { scanLead m bs with forbidden := true } := by
  simp [scanLead, hl, hf]

/-! ## Displacement and address (R95) -/

/-- Four bytes of a displacement are the displacement. -/
theorem disp32Of_bytes (d : BitVec 32) :
    disp32Of (d.extractLsb' 0 8) (d.extractLsb' 8 8) (d.extractLsb' 16 8) (d.extractLsb' 24 8) = d := by
  unfold disp32Of
  rw [BitVec.extractLsb'_append_extractLsb'_eq_extractLsb' (by decide),
    BitVec.extractLsb'_append_extractLsb'_eq_extractLsb' (by decide),
    BitVec.extractLsb'_append_extractLsb'_eq_extractLsb' (by decide)]
  exact BitVec.extractLsb'_eq_self

theorem readDisp32_bytes (d : BitVec 32) (tail : List Byte) : readDisp32 (disp32Bytes d ++ tail) = some (d, tail) := by
  simp [readDisp32, disp32Bytes, disp32Of_bytes]

theorem readDisp_bytes (d : Disp) (tail : List Byte) : readDisp d.mod (d.bytes ++ tail) = some (d, tail) := by
  cases d with
  | none | d8 v => rfl
  | d32 v => simp [readDisp, Disp.mod, Disp.bytes, readDisp32_bytes]

theorem Disp.mod_eq_zero (d : Disp) : d.mod = 0 ↔ d.present = false := by
  cases d <;> simp [Disp.mod, Disp.present]

theorem Disp.mod_ne_three (d : Disp) : d.mod ≠ 3 := by cases d <;> simp [Disp.mod]

theorem Addr.mod_ne_three (a : Addr) : a.modRm.1 ≠ 3 := by
  cases a with
  | base b d | sib s i b d => exact d.mod_ne_three
  | disp32 d | sibDisp32 s i d => simp [Addr.modRm]

theorem readAddr_base (x b : Bool) {mod : BitVec 2} {rm : BitVec 3} (h4 : rm ≠ 4) (h5 : ¬ (mod = 0 ∧ rm = 5))
    (bs : List Byte) :
    readAddr x b mod rm bs = (readDisp mod bs).map fun d => (.base (bit b ++ rm) d.1, d.2) := by
  have h5 : (mod == 0 && rm == 5) = false := by simpa using h5
  simp only [readAddr, beq_eq_false_iff_ne.2 h4, h5, Bool.false_eq_true, if_false]

theorem readAddr_disp32 (x b : Bool) (bs : List Byte) :
    readAddr x b 0 5 bs = (readDisp32 bs).map fun d => (.disp32 d.1, d.2) := rfl

theorem readAddr_sib (x b : Bool) {mod : BitVec 2} {sib : Byte} (h : ¬ (mod = 0 ∧ sib.extractLsb' 0 3 = 5))
    (bs : List Byte) :
    readAddr x b mod 4 (sib :: bs) = (readDisp mod bs).map fun d =>
      (.sib (sib.extractLsb' 6 2) (bit x ++ sib.extractLsb' 3 3) (bit b ++ sib.extractLsb' 0 3) d.1, d.2) := by
  have h : (mod == 0 && sib.extractLsb' 0 3 == 5#3) = false := by simpa using h
  simp only [readAddr, beq_self_eq_true, if_true, h, Bool.false_eq_true, if_false]

theorem readAddr_sibDisp32 (x b : Bool) {sib : Byte} (h : sib.extractLsb' 0 3 = 5) (bs : List Byte) :
    readAddr x b 0 4 (sib :: bs) = (readDisp32 bs).map fun d =>
      (.sibDisp32 (sib.extractLsb' 6 2) (bit x ++ sib.extractLsb' 3 3) d.1, d.2) := by
  simp [readAddr, h]

/-- A base number 5 mod 8 needs a displacement, so `mod` is not 00. -/
theorem Disp.mod_base {d : Disp} {b : GReg} (h : (d.present || b.setWidth 3 != 5#3) = true) :
    ¬ (d.mod = 0 ∧ b.setWidth 3 = 5#3) := by
  rintro ⟨hd, hb⟩
  simp [d.mod_eq_zero.1 hd, hb] at h

/-- A canonical memory form reads back from its bytes. -/
theorem readAddr_bytes {a : Addr} (h : a.canonical = true) (tail : List Byte) :
    readAddr (Loc.mem a).evexX (Loc.mem a).evexBase a.modRm.1 a.modRm.2 (a.bytes ++ tail) = some (a, tail) := by
  cases a with
  | base b d =>
    obtain ⟨h4, h5⟩ : (b.setWidth 3 != 4#3) = true ∧ (d.present || b.setWidth 3 != 5#3) = true := by
      simpa only [Addr.canonical, Bool.and_eq_true] using h
    refine (readAddr_base _ _ (bne_iff_ne.1 h4) (Disp.mod_base h5) _).trans ?_
    simp [Addr.bytes, readDisp_bytes, Loc.evexBase, greg_of_bits]
  | disp32 d =>
    refine (readAddr_disp32 _ _ _).trans ?_
    simp [Addr.bytes, readDisp32_bytes]
  | sib s i b d =>
    obtain ⟨hs, hi, hb⟩ := byte_233_fields s (i.setWidth 3) (b.setWidth 3)
    refine (readAddr_sib _ _ (fun hm => Disp.mod_base h ⟨hm.1, hb.symm.trans hm.2⟩) _).trans ?_
    simp [readDisp_bytes, Loc.evexX, Loc.evexBase, hs, hi, hb, greg_of_bits]
  | sibDisp32 s i d =>
    obtain ⟨hs, hi, hb⟩ := byte_233_fields s (i.setWidth 3) 5#3
    refine (readAddr_sibDisp32 _ _ hb _).trans ?_
    simp [readDisp32_bytes, Loc.evexX, hs, hi, greg_of_bits]

/-! ## The r/m operand (R95, R96, R98, R102) -/

/-- What the decoder of 64-bit mode reads for r/m, with the vector length, and what follows; the operand is `none` where its
fields are #UD. -/
def Op.readRm (op : Op) (e : Evex) (modrm : Byte) (bs : List Byte) : Option (Option (Loc × VL) × List Byte) :=
  if modrm.extractLsb' 6 2 = 3 then
    some (op.regLoc (bit e.x ++ bit e.b ++ modrm.extractLsb' 0 3) e.bb e.ll, bs)
  else
    (readAddr e.x e.b (modrm.extractLsb' 6 2) (modrm.extractLsb' 0 3) bs).map fun a => (op.memLoc a.1 e.bb e.ll, a.2)

theorem LenKind.length_code {k : LenKind} {vl : VL} (h : k ≠ .packed → vl = .v128) :
    k.length (if k = .packed then vl.code else 0#2) = some vl := by
  cases k with
  | packed => cases vl <;> rfl
  | only128 | llig => rw [h (by decide)]; rfl

/-- The EVEX and ModRM fields of a register. -/
theorem Loc.fields_of_register {l : Loc} {r : VReg} (h : l.register = some r) :
    l.modRm = (3, r.setWidth 3) ∧ bit l.evexX ++ bit l.evexBase ++ r.setWidth 3 = r ∧ l.bytes = [] := by
  cases l with
  | reg q | regEr q _ | regSae q => cases h; exact ⟨rfl, vreg_of_bits r, rfl⟩
  | mem a | bcst a => cases h

/-- The EVEX and ModRM fields of a memory form. -/
theorem Loc.fields_of_addr {l : Loc} {a : Addr} (h : l.addr = some a) :
    l.modRm = a.modRm ∧ l.evexX = (Loc.mem a).evexX ∧ l.evexBase = (Loc.mem a).evexBase ∧ l.bytes = a.bytes ∧
      l.addrOk = a.canonical := by
  cases l with
  | reg q | regEr q _ | regSae q => cases h
  | mem b | bcst b => cases h; exact ⟨rfl, rfl, rfl, rfl, rfl⟩

/-! ## The fields (R96, R101, R103) -/

theorem Op.zeroing_of_not_masked {op : Op} (h : op.info.masked = false) : op.info.zeroing = false := by
  revert h
  cases op <;> decide

theorem Op.maskOk_iff (op : Op) (e : Evex) :
    op.maskOk e = true ↔ (op.info.masked = false → e.aaa = 0 ∧ e.z = false) ∧
      (op.info.zeroing = false → e.z = false) ∧ (e.z = true → e.aaa ≠ 0) := by
  cases hm : op.info.masked with
  | true => cases hz : e.z <;> simp [Op.maskOk, hm, hz]
  | false =>
    simp only [Op.maskOk, hm, Bool.false_eq_true, if_false, Bool.and_eq_true, beq_iff_eq, Bool.not_eq_true', forall_const]
    exact ⟨fun ⟨ha, hz⟩ => ⟨⟨ha, hz⟩, fun _ => hz, fun h => absurd (hz.symm.trans h) (by decide)⟩,
      fun ⟨haz, _, _⟩ => haz⟩

theorem DestKind.number_of_bits {d : DestKind} {e : Evex} {r : VReg} (hr : e.r = r.getLsbD 3) (hr' : e.r' = r.getLsbD 4)
    (h : (r.setWidth d.bits).setWidth 5 = r) : d.number .mode64 e (r.setWidth 3) = some r := by
  have low3 : ∀ r : VReg, (r.setWidth 3).setWidth 5 = r →
      r.getLsbD 3 = false ∧ r.getLsbD 4 = false ∧ 0#2 ++ r.setWidth 3 = r := by decide
  have low4 : ∀ r : VReg, (r.setWidth 4).setWidth 5 = r →
      r.getLsbD 4 = false ∧ 0#1 ++ bit (r.getLsbD 3) ++ r.setWidth 3 = r := by decide
  cases d with
  | vector => simpa [DestKind.number, hr, hr'] using vreg_of_bits r
  | opmask =>
    obtain ⟨h3, h4, hreg⟩ := low3 r h
    simp only [DestKind.number, hr, hr', h3, h4, hreg, Bool.or_self, Bool.false_eq_true, if_false]
  | general =>
    obtain ⟨h4, hreg⟩ := low4 r h
    simp only [DestKind.number, hr, hr', h4, hreg, Bool.false_eq_true, if_false]

/-- The fields are accepted when none of the conditions (f) to (j) of R108 holds. -/
theorem Op.fields_eq_some_iff {op : Op} {m : Mode} {e : Evex} {reg : BitVec 3} {loc : Option (Loc × VL)}
    {pfx : List LegacyPrefix} {imm : Byte} {p : Parts} :
    op.fields m e reg loc pfx imm = some p ↔
      e.p0b3 = false ∧ e.p1b2 = true ∧ op.maskOk e = true ∧
        ∃ d v l vl, op.info.dest.number m e reg = some d ∧ op.vvvvNumber m e = some v ∧ loc = some (l, vl) ∧
          ⟨op, vl, { reg := d, vvvv := v, rm := ⟨pfx, l⟩, aaa := e.aaa, z := e.z, imm := imm }⟩ = p := by
  unfold Op.fields
  split
  next h =>
    refine ⟨nofun, ?_⟩
    rintro ⟨h3, h2, hm, -⟩
    simp [h3, h2, hm] at h
  next h =>
    obtain ⟨h3, h2, hm⟩ : e.p0b3 = false ∧ e.p1b2 = true ∧ op.maskOk e = true := by simpa [and_assoc] using h
    split
    next d v l vl hd hv =>
      refine ⟨fun hp => ⟨h3, h2, hm, d, v, l, vl, hd, hv, rfl, Option.some.inj hp⟩, ?_⟩
      rintro ⟨-, -, -, d', v', l', vl', hd', hv', hl', rfl⟩
      cases hd.symm.trans hd'
      cases hv.symm.trans hv'
      cases hl'
      rfl
    next hno =>
      refine ⟨nofun, ?_⟩
      rintro ⟨-, -, -, d, v, l, vl, hd, hv, hl, -⟩
      exact (hno d v l vl hd hv hl).elim

namespace Parts
variable {p : Parts}

theorem regLoc_eq (hs : p.Shaped) (hl : p.locOk = true) {r : VReg} (h : p.raw.rm.loc.register = some r) :
    p.op.regLoc r p.raw.rm.loc.evexB p.ll = some (p.raw.rm.loc, p.vl) := by
  have hlen := LenKind.length_code hs.vl
  rw [Parts.locOk] at hl
  cases hloc : p.raw.rm.loc with
  | reg q =>
    rw [hloc] at h
    cases h
    simp [Op.regLoc, Loc.evexB, Parts.ll, hloc, hlen]
  | regEr q rc =>
    rw [hloc] at h hl
    cases h
    simp only [Bool.and_eq_true, beq_iff_eq] at hl
    simp [Op.regLoc, Loc.evexB, Parts.ll, hloc, hl.1, hl.2]
  | regSae q =>
    rw [hloc] at h hl
    cases h
    simp only [Bool.and_eq_true, beq_iff_eq, Bool.or_eq_true, bne_iff_ne] at hl
    have hvl : (if p.op.info.len = .packed then VL.v512 else .v128) = p.vl := by
      split
      next hp => exact (hl.2.resolve_left (not_not_intro hp)).symm
      next hp => exact (hs.vl hp).symm
    simp [Op.regLoc, Loc.evexB, hl.1, hvl]
  | mem a | bcst a => rw [hloc] at h; cases h

theorem memLoc_eq (hs : p.Shaped) (hl : p.locOk = true) {a : Addr} (h : p.raw.rm.loc.addr = some a) :
    p.op.memLoc a p.raw.rm.loc.evexB p.ll = some (p.raw.rm.loc, p.vl) := by
  have hlen := LenKind.length_code hs.vl
  rw [Parts.locOk] at hl
  cases hloc : p.raw.rm.loc with
  | reg q | regEr q rc | regSae q => rw [hloc] at h; cases h
  | mem b =>
    rw [hloc] at h
    cases h
    simp [Op.memLoc, Loc.evexB, Parts.ll, hloc, hlen]
  | bcst b =>
    rw [hloc] at h hl
    cases h
    have hb : p.op.info.bcst = true := hl
    simp [Op.memLoc, Loc.evexB, Parts.ll, hloc, hlen, hb]

/-- The r/m operand reads back. -/
theorem readRm_bytes (hs : p.Shaped) (hl : p.locOk = true) (ha : p.raw.rm.loc.addrOk = true) (tail : List Byte) :
    p.op.readRm p.evex p.modrm (p.raw.rm.loc.bytes ++ tail) = some (some (p.raw.rm.loc, p.vl), tail) := by
  rw [Op.readRm, p.modrm_mod, p.modrm_rm]
  obtain ⟨r, hr⟩ | ⟨a, -, hra⟩ := p.raw.rm.loc.register_or_addr
  · obtain ⟨hm, hx, hb⟩ := Loc.fields_of_register hr
    rw [hm, if_pos rfl, hb, List.nil_append, ← regLoc_eq hs hl hr]
    exact congrArg (fun q => some (p.op.regLoc q _ _, tail)) hx
  · obtain ⟨hm, hx, hb, hbs, hok⟩ := Loc.fields_of_addr hra
    have hread := readAddr_bytes (hok ▸ ha) tail
    rw [hm, if_neg a.mod_ne_three, hbs, ← memLoc_eq hs hl hra, Parts.evex, hx, hb, hread]
    rfl

theorem number_eq (hs : p.Shaped) : p.op.info.dest.number .mode64 p.evex (p.raw.reg.setWidth 3) = some p.raw.reg :=
  DestKind.number_of_bits rfl rfl hs.reg

theorem vvvvNumber_eq (hs : p.Shaped) : p.op.vvvvNumber .mode64 p.evex = some p.raw.vvvv := by
  cases hu : p.op.info.usesV with
  | true => simpa [Op.vvvvNumber, hu, Parts.evex] using vvvv_of_bits p.raw.vvvv
  | false => simp [Op.vvvvNumber, hu, Parts.evex, hs.vvvv hu]

theorem maskOk_evex (hs : p.Shaped) (hz : p.zeroOk = true) : p.op.maskOk p.evex = true := by
  refine (Op.maskOk_iff _ _).2 ⟨fun hm => ⟨hs.aaa hm, hs.z (Op.zeroing_of_not_masked hm)⟩, hs.z, fun hz1 => ?_⟩
  have hz1 : p.raw.z = true := hz1
  have haaa : p.raw.aaa ≠ 0 := by simpa [Parts.zeroOk, hz1] using hz
  exact haaa

theorem fields_eq (hs : p.Shaped) (hz : p.zeroOk = true) :
    p.op.fields .mode64 p.evex (p.raw.reg.setWidth 3) (some (p.raw.rm.loc, p.vl)) p.raw.rm.pfx p.raw.imm = some p :=
  Op.fields_eq_some_iff.2 ⟨rfl, rfl, maskOk_evex hs hz, _, _, _, _, number_eq hs, vvvvNumber_eq hs, rfl, rfl⟩

end Parts

/-! ## The immediate and the end of the decoder (R104) -/

theorem finishDecode_eq_parts {f : Bool} {o : Option Parts} {bs rest : List Byte} {p : Parts} :
    finishDecode f o bs = .parts p rest ↔ f = false ∧ o = some p ∧ bs = rest := by
  cases f <;> cases o <;> simp [finishDecode]

theorem Op.readImm_bytes {op : Op} {imm : Byte} (h : op.hasImm = false → imm = 0) (rest : List Byte) :
    op.readImm ((if op.hasImm then [imm] else []) ++ rest) = some (imm, rest) := by
  cases hi : op.hasImm with
  | true => simp [Op.readImm, hi]
  | false => simp [Op.readImm, hi, h hi]

/-- In 64-bit mode the decoder reads r/m and the immediate, and then looks at the fields. -/
theorem decodeOperands_mode64 (lead : Lead) (op : Op) (e : Evex) (modrm : Byte) (bs : List Byte) :
    decodeOperands .mode64 lead op e modrm bs =
      ((op.readRm e modrm bs).bind fun l => (op.readImm l.2).map fun i =>
        finishDecode lead.forbidden (op.fields .mode64 e (modrm.extractLsb' 3 3) l.1 lead.pfx i.1) i.2).getD
          (.rejected .overlong) := by
  have hb : (e.b && Mode.mode64 == .mode64) = e.b := by simp
  unfold decodeOperands Op.readRm
  simp only [Mode.refusesEvex, hb, beq_iff_eq, bne_self_eq_false, Bool.false_and, Bool.false_eq_true, if_false]
  by_cases hreg : modrm.extractLsb' 6 2 = 3
  · simp only [hreg, if_true, Option.bind_some]
    cases op.readImm bs <;> rfl
  · simp only [hreg, if_false]
    cases readAddr e.x e.b (modrm.extractLsb' 6 2) (modrm.extractLsb' 0 3) bs with
    | none => rfl
    | some a =>
      simp only [Option.map_some, Option.bind_some]
      cases op.readImm a.2 <;> rfl

theorem decodeOperands_of_read {lead : Lead} {op : Op} {e : Evex} {modrm imm : Byte} {bs bs' rest : List Byte}
    {loc : Option (Loc × VL)} (hrm : op.readRm e modrm bs = some (loc, bs')) (himm : op.readImm bs' = some (imm, rest)) :
    decodeOperands .mode64 lead op e modrm bs =
      finishDecode lead.forbidden (op.fields .mode64 e (modrm.extractLsb' 3 3) loc lead.pfx imm) rest := by
  simp only [decodeOperands_mode64, hrm, Option.bind_some, himm, Option.map_some, Option.getD_some]

theorem decodeEvex_of_find {pfx : List LegacyPrefix} {f : Bool} {p0 p1 p2 opcode modrm : Byte} {tail : List Byte} {op : Op}
    (h : Op.find (Evex.ofBytes p0 p1 p2).mmm (Evex.ofBytes p0 p1 p2).pp (Evex.ofBytes p0 p1 p2).w opcode = some op) :
    decodeEvex .mode64 ⟨pfx, f, 0x62 :: p0 :: p1 :: p2 :: opcode :: modrm :: tail⟩ =
      decodeOperands .mode64 ⟨pfx, f, 0x62 :: p0 :: p1 :: p2 :: opcode :: modrm :: tail⟩ op (Evex.ofBytes p0 p1 p2) modrm
        tail := by
  simp [decodeEvex, Op.select_mode64, h]

/-! ## The whole instruction -/

namespace Parts
variable {p : Parts}

theorem wf_iff : p.wf = true ↔
    p.op.length p.raw.rm ≤ 15 ∧ p.zeroOk = true ∧ p.locOk = true ∧ p.raw.rm.loc.addrOk = true := by
  simp [Parts.wf, Parts.lengthOk, and_assoc]

/-- The bytes from 62H on. -/
def body (p : Parts) : List Byte :=
  0x62 :: p.evex.p0 :: p.evex.p1 :: p.evex.p2 :: p.op.info.opcode :: p.modrm ::
    (p.raw.rm.loc.bytes ++ (if p.op.hasImm then [p.raw.imm] else []))

theorem encodeParts_eq (p : Parts) : encodeParts p = p.raw.rm.pfx.map LegacyPrefix.byte ++ p.body := by
  simp [encodeParts, body]

/-- What is written from 62H on reads back, unless a forbidden byte stands before it. -/
theorem decodeEvex_body (hs : p.Shaped) (hw : p.wf = true) (f : Bool) (rest : List Byte) :
    decodeEvex .mode64 ⟨p.raw.rm.pfx, f, p.body ++ rest⟩ = finishDecode f (some p) rest := by
  obtain ⟨-, hz, hl, ha⟩ := wf_iff.1 hw
  have hfind : Op.find (Evex.ofBytes p.evex.p0 p.evex.p1 p.evex.p2).mmm (Evex.ofBytes p.evex.p0 p.evex.p1 p.evex.p2).pp
      (Evex.ofBytes p.evex.p0 p.evex.p1 p.evex.p2).w p.op.info.opcode = some p.op := by
    rw [Evex.ofBytes_bytes]
    exact p.op.find_info
  refine (decodeEvex_of_find hfind).trans ?_
  rw [Evex.ofBytes_bytes, List.append_eq, List.append_assoc,
    decodeOperands_of_read (readRm_bytes hs hl ha _) (Op.readImm_bytes hs.imm rest), p.modrm_reg, fields_eq hs hz]

end Parts

theorem Disp.length_bytes (d : Disp) : d.bytes.length = d.length := by cases d <;> rfl

theorem Addr.length_bytes (a : Addr) : a.bytes.length = a.length := by
  cases a with
  | base b d => exact d.length_bytes
  | disp32 d | sibDisp32 s i d => rfl
  | sib s i b d => rw [Addr.bytes, Addr.length, List.length_cons, d.length_bytes, Nat.add_comm]

theorem Loc.length_bytes (l : Loc) : l.bytes.length = l.length := by
  cases l with
  | reg r | regEr r _ | regSae r => rfl
  | mem a | bcst a => exact a.length_bytes

/-- What is written has the length of R104. -/
theorem length_encodeParts (p : Parts) : (encodeParts p).length = p.op.length p.raw.rm := by
  rw [encodeParts, Op.length, ← Loc.length_bytes]
  cases p.op.hasImm <;> simp <;> omega

/-! ## At most 15 bytes are read -/

/-- The outcome with more bytes behind the rest. -/
def DecodedParts.followedBy (d : DecodedParts) (bs : List Byte) : DecodedParts :=
  match d with
  | .parts p rest => .parts p (rest ++ bs)
  | .invalid => .invalid
  | .rejected r => .rejected r

theorem decodeParts_eq (m : Mode) (bs : List Byte) :
    decodeParts m bs = (decodeEvex m (scanLead m (bs.take 15))).followedBy (bs.drop 15) := by
  rw [decodeParts]
  cases decodeEvex m (scanLead m (bs.take 15)) <;> rfl

theorem decodeParts_append {m : Mode} {bs : List Byte} (h : bs.length ≤ 15) (rest : List Byte) :
    decodeParts m (bs ++ rest) =
      (decodeEvex m (scanLead m (bs ++ rest.take (15 - bs.length)))).followedBy (rest.drop (15 - bs.length)) := by
  rw [decodeParts_eq, List.take_append, List.drop_append, List.take_of_length_le h, List.drop_eq_nil_of_le h,
    List.nil_append]

theorem scanLead_encodeParts (m : Mode) (p : Parts) (rest : List Byte) :
    scanLead m (encodeParts p ++ rest) = ⟨p.raw.rm.pfx, false, p.body ++ rest⟩ := by
  rw [p.encodeParts_eq, List.append_assoc]
  exact scanLead_legacy m _ _

/-- The parts of a well-formed instruction read back. -/
theorem decodeParts_encodeParts {p : Parts} (hs : p.Shaped) (hw : p.wf = true) (rest : List Byte) :
    decodeParts .mode64 (encodeParts p ++ rest) = .parts p rest := by
  have hlen : (encodeParts p).length ≤ 15 := length_encodeParts p ▸ (Parts.wf_iff.1 hw).1
  rw [decodeParts_append hlen, scanLead_encodeParts, Parts.decodeEvex_body hs hw]
  simp [finishDecode, DecodedParts.followedBy]

theorem decode_of_parts {m : Mode} {bs rest : List Byte} {p : Parts} (h : decodeParts m bs = .parts p rest) :
    decode m bs = .instr p.instr rest := by rw [decode, h]

theorem decode_of_invalid {m : Mode} {bs : List Byte} (h : decodeParts m bs = .invalid) : decode m bs = .invalid := by
  rw [decode, h]

theorem length_encode (i : Instr) : (encode i).length = i.length := length_encodeParts i.parts

/-- Settles O1: every field reads back, and the parts of a form give the form. -/
theorem decodeEncode : Obligations.DecodeEncode := by
  refine fun i rest hw => ⟨?_, length_encode i⟩
  rw [encode, decode_of_parts (decodeParts_encodeParts i.shaped hw rest), i.instr_parts]

/-- Settles O4: the bytes behind a forbidden one are read as before, and the encoding is then refused. -/
theorem leadBytesUndefined : Obligations.LeadBytesUndefined := by
  intro i b rest hw hlen hb
  obtain ⟨hl, hf⟩ := forbiddenLead_mode64 hb
  have hlen : (b :: encode i).length ≤ 15 := by
    rw [List.length_cons, length_encode]
    omega
  refine decode_of_invalid ?_
  rw [← List.cons_append, decodeParts_append hlen, List.cons_append, scanLead_forbidden hl hf, encode,
    scanLead_encodeParts, Parts.decodeEvex_body i.shaped hw]
  rfl

/-- Settles O3, by evaluation. -/
theorem decodeWords : Obligations.DecodeWords := by
  unfold Obligations.DecodeWords
  decide +kernel

/-- The forms that AVX10_VNNI_INT enables too (R110). -/
theorem Op.feature_eq (op : Op) :
    op.info.feature = if op ∈ [.vpdpbssd, .vpdpbssds, .vpdpbsud, .vpdpbsuds, .vpdpbuud, .vpdpbuuds, .vpdpwsud, .vpdpwsuds,
      .vpdpwusd, .vpdpwusds, .vpdpwuud, .vpdpwuuds] then .avx10v2OrVnniInt else .avx10v2 := by
  cases op <;> decide

end Sys2Proof

namespace Sys2Proof.Machine

/-! ## The step (R90, R108, R114) -/

/-- Settles O7: the three outcomes of the decoder. -/
theorem stepRunsDecoded : Obligations.StepRunsDecoded := by
  refine fun s => ⟨fun i rest h => ?_, fun h => ?_, fun r h => ?_⟩ <;> rw [step, h]

theorem State.length_bytesFrom (s : State) (a : Address) (n : Nat) : (s.bytesFrom a n).length = n := by
  induction n generalizing a with
  | zero => rfl
  | succ n ih => rw [State.bytesFrom, List.length_cons, ih]

theorem State.getElem_bytesFrom (s : State) (a : Address) {n k : Nat} (h : k < (s.bytesFrom a n).length) :
    (s.bytesFrom a n)[k] = s.byteAt (a + BitVec.ofNat 64 k) := by
  induction n generalizing a k with
  | zero => exact absurd h (by simp [State.bytesFrom])
  | succ n ih =>
    cases k with
    | zero => simp [State.bytesFrom]
    | succ k =>
      simp only [State.bytesFrom, List.getElem_cons_succ, ih]
      congr 1
      bv_omega

/-- Bytes that stand at the pc begin the bytes fetched. -/
theorem State.fetchBytes_eq {s : State} {bs : List Byte} (hlen : bs.length ≤ maxLength)
    (h : ∀ (n : Nat) (hn : n < bs.length), s.byteAt (s.pc + BitVec.ofNat 64 n) = bs[n]) :
    ∃ rest, s.fetchBytes = bs ++ rest := by
  have hfetch : s.fetchBytes.length = maxLength := s.length_bytesFrom _ _
  have htake : s.fetchBytes.take bs.length = bs := by
    refine List.ext_getElem (by simp [hfetch, hlen]) fun n h1 h2 => ?_
    rw [List.getElem_take, ← h n h2]
    exact s.getElem_bytesFrom s.pc _
  exact ⟨_, (htake ▸ List.take_append_drop bs.length s.fetchBytes).symm⟩

/-- In real and virtual-8086 mode every encoding is #UD, where it is one (R96, R108 a). -/
theorem decode_refused {m : Mode} (hm : m.refusesEvex = true) {i : Instr} (hw : i.wf = true)
    (hr : i.parts.evex.r = false) (hx : i.parts.evex.x = false) (rest : List Byte) :
    decode m (encode i ++ rest) = .invalid := by
  have hlen : (encode i).length ≤ 15 := length_encode i ▸ (Parts.wf_iff.1 hw).1
  have hsel : Op.select m i.parts.evex i.parts.op.info.opcode =
      some (if m == .mode64 then i.parts.op else i.parts.op.narrow) := by
    rw [Op.select]
    exact congrArg (Option.map _) i.parts.op.find_info
  refine decode_of_invalid ?_
  rw [decodeParts_append hlen, encode, scanLead_encodeParts]
  simp [decodeEvex, Parts.body, hr, hx, hsel, decodeOperands, hm, DecodedParts.followedBy]

/-- Settles O8: the bytes fetched are the encoding and more, so they decode as the statement on the decoder says. -/
theorem stepRunsEncoded : Obligations.StepRunsEncoded := by
  intro i s hw hmem
  obtain ⟨rest, hfetch⟩ := State.fetchBytes_eq (length_encode i ▸ (Parts.wf_iff.1 hw).1) hmem
  obtain ⟨hinstr, hinvalid, -⟩ := stepRunsDecoded s
  refine ⟨fun hm => hinstr i rest ?_, fun hm hr hx => hinvalid ?_⟩
  · rw [hm, hfetch]
    exact (decodeEncode i _ hw).1
  · rw [hfetch]
    exact decode_refused (by obtain hm | hm := hm <;> rw [hm] <;> rfl) hw hr hx _

/-! ## When an instruction runs (R108 a, c, d) -/

theorem Cpuid.avx10v2_iff (c : Cpuid) :
    c.avx10v2 = true ↔ c.leaf7s1Edx.getLsbD 19 = true ∧ 2 ≤ (c.leaf24s0Ebx.extractLsb' 0 8).toNat := by
  simp [Cpuid.avx10v2]

theorem State.undefinedHere_iff (s : State) (f : Feature) :
    s.undefinedHere f = true ↔ s.mode = .real ∨ s.mode = .virtual8086 ∨ s.osxsave = false ∨ s.xcr0Enabled = false ∨
      s.cpuid.has f = false := by
  simp [State.undefinedHere, or_assoc]

theorem State.xcr0Enabled_eq_false_iff (s : State) :
    s.xcr0Enabled = false ↔ s.xcr0.getLsbD 1 = false ∨ s.xcr0.getLsbD 2 = false ∨ s.xcr0.getLsbD 5 = false ∨
      s.xcr0.getLsbD 6 = false ∨ s.xcr0.getLsbD 7 = false := by
  simp only [State.xcr0Enabled, Bool.and_eq_false_iff, or_assoc]

/-- Settles O13: each of the conditions makes the extension undefined, and that check comes first. -/
theorem notEnabledRaisesUd : Obligations.NotEnabledRaisesUd := by
  intro i s avx10v2 either h
  obtain ⟨rest, hg⟩ := exec_guarded i s
  rw [hg, guarded_undefined]
  rw [State.undefinedHere_iff, State.xcr0Enabled_eq_false_iff]
  have hcpuid : ¬ avx10v2 ∧ (either → s.cpuid.leaf24s1Ecx.getLsbD 2 = false) →
      s.cpuid.has i.op.info.feature = false := by
    rintro ⟨hv, hint⟩
    have hv : s.cpuid.avx10v2 = false := Bool.eq_false_iff.2 fun h => hv (s.cpuid.avx10v2_iff.1 h)
    rw [Op.feature_eq]
    split
    next hop => rw [Cpuid.has, hv, Bool.false_or]; exact hint hop
    next => exact hv
  tauto

end Sys2Proof.Machine
end

section
/-! PROOFS. What the decoder of 64-bit mode accepts: how many bytes each part of it reads, when the fields are accepted, and
the statements on accepted and undefined encodings (spec/30_encoding.md R91, R95, R98, R101 to R104, R108). -/

namespace Sys2Proof

/-! ## Bytes read -/

/-- `rest` is what follows the first `n` bytes of `bs`. -/
def Consumes (n : Nat) (bs rest : List Byte) : Prop := ∃ taken, bs = taken ++ rest ∧ taken.length = n

namespace Consumes
variable {m n : Nat} {b : Byte} {bs cs rest : List Byte}

theorem refl (bs : List Byte) : Consumes 0 bs bs := ⟨[], rfl, rfl⟩

theorem cons (h : Consumes n bs rest) : Consumes (n + 1) (b :: bs) rest := by
  obtain ⟨taken, rfl, rfl⟩ := h
  exact ⟨b :: taken, rfl, rfl⟩

theorem trans (h1 : Consumes m bs cs) (h2 : Consumes n cs rest) : Consumes (m + n) bs rest := by
  obtain ⟨t1, rfl, rfl⟩ := h1
  obtain ⟨t2, rfl, rfl⟩ := h2
  exact ⟨t1 ++ t2, (List.append_assoc _ _ _).symm, List.length_append⟩

theorem append (h : Consumes n bs rest) (cs : List Byte) : Consumes n (bs ++ cs) (rest ++ cs) := by
  obtain ⟨taken, rfl, rfl⟩ := h
  exact ⟨taken, List.append_assoc _ _ _, rfl⟩

theorem length_eq (h : Consumes n bs rest) : bs.length = n + rest.length := by
  obtain ⟨taken, rfl, rfl⟩ := h
  exact List.length_append

end Consumes

theorem scanLead_consumes (m : Mode) (bs : List Byte) (h : (scanLead m bs).forbidden = false) :
    Consumes (scanLead m bs).pfx.length bs (scanLead m bs).rest := by
  induction bs with
  | nil => exact .refl []
  | cons b bs ih =>
    unfold scanLead at h ⊢
    split
    next p hp =>
      rw [hp] at h
      exact (ih h).cons
    next hp =>
      rw [hp] at h
      split
      next hf => simp [hf] at h
      next => exact .refl _

theorem readDisp32_consumes {bs rest : List Byte} {d : BitVec 32} (h : readDisp32 bs = some (d, rest)) :
    Consumes 4 bs rest := by
  unfold readDisp32 at h
  split at h
  next b0 b1 b2 b3 tail =>
    obtain ⟨-, rfl⟩ := Prod.mk.inj (Option.some.inj h)
    exact ⟨[b0, b1, b2, b3], rfl, rfl⟩
  next => cases h

theorem readDisp32_total {bs : List Byte} (h : 4 ≤ bs.length) : ∃ d, readDisp32 bs = some d := by
  obtain _ | ⟨b0, _ | ⟨b1, _ | ⟨b2, _ | ⟨b3, tail⟩⟩⟩⟩ := bs
  case cons.cons.cons.cons => exact ⟨_, rfl⟩
  all_goals simp at h

/-- A displacement is read where `mod` is not 00. -/
theorem readDisp_consumes {mod : BitVec 2} {bs rest : List Byte} {d : Disp} (h : readDisp mod bs = some (d, rest)) :
    Consumes d.length bs rest ∧ (mod ≠ 0 → d.present = true) := by
  unfold readDisp at h
  split at h
  next h0 =>
    obtain ⟨rfl, rfl⟩ := Prod.mk.inj (Option.some.inj h)
    exact ⟨.refl _, fun hne => absurd (beq_iff_eq.1 h0) hne⟩
  next =>
    split at h
    next =>
      cases bs with
      | nil => cases h
      | cons b bs =>
        obtain ⟨rfl, rfl⟩ := Prod.mk.inj (Option.some.inj h)
        exact ⟨(Consumes.refl _).cons, fun _ => rfl⟩
    next =>
      obtain ⟨⟨v, tail⟩, hv, heq⟩ := Option.map_eq_some_iff.1 h
      obtain ⟨rfl, rfl⟩ := Prod.mk.inj heq
      exact ⟨readDisp32_consumes hv, fun _ => rfl⟩

theorem readDisp_total (mod : BitVec 2) {bs : List Byte} (h : 4 ≤ bs.length) : ∃ d, readDisp mod bs = some d := by
  unfold readDisp
  split
  next => exact ⟨_, rfl⟩
  next =>
    split
    next =>
      cases bs with
      | nil => simp at h
      | cons b bs => exact ⟨_, rfl⟩
    next =>
      obtain ⟨d, hd⟩ := readDisp32_total h
      exact ⟨_, congrArg _ hd⟩

/-- The four ways to read an address: with and without SIB, with a base and with a displacement alone. -/
theorem readAddr_cases (x b : Bool) (mod : BitVec 2) (rm : BitVec 3) (bs : List Byte) :
    (rm ≠ 4 ∧ ¬ (mod = 0 ∧ rm = 5) ∧
      readAddr x b mod rm bs = (readDisp mod bs).map fun d => (.base (bit b ++ rm) d.1, d.2)) ∨
    readAddr x b mod rm bs = (readDisp32 bs).map (fun d => (.disp32 d.1, d.2)) ∨
    (bs = [] ∧ readAddr x b mod rm bs = none) ∨
    ∃ sib tail, bs = sib :: tail ∧
      ((¬ (mod = 0 ∧ sib.extractLsb' 0 3 = 5) ∧ readAddr x b mod rm bs = (readDisp mod tail).map fun d =>
        (.sib (sib.extractLsb' 6 2) (bit x ++ sib.extractLsb' 3 3) (bit b ++ sib.extractLsb' 0 3) d.1, d.2)) ∨
      readAddr x b mod rm bs = (readDisp32 tail).map fun d =>
        (.sibDisp32 (sib.extractLsb' 6 2) (bit x ++ sib.extractLsb' 3 3) d.1, d.2)) := by
  by_cases h4 : rm = 4
  · subst h4
    cases bs with
    | nil => exact .inr (.inr (.inl ⟨rfl, rfl⟩))
    | cons sib tail =>
      refine .inr (.inr (.inr ⟨sib, tail, rfl, ?_⟩))
      by_cases h5 : mod = 0 ∧ sib.extractLsb' 0 3 = 5
      · obtain ⟨rfl, hb⟩ := h5
        exact .inr (readAddr_sibDisp32 x b hb tail)
      · exact .inl ⟨h5, readAddr_sib x b h5 tail⟩
  · by_cases h5 : mod = 0 ∧ rm = 5
    · obtain ⟨rfl, rfl⟩ := h5
      exact .inr (.inl (readAddr_disp32 x b bs))
    · exact .inl ⟨h4, h5, readAddr_base x b h4 h5 bs⟩

theorem present_or_ne_five {mod : BitVec 2} {base : BitVec 3} {d : Disp} (hp : mod ≠ 0 → d.present = true)
    (h5 : ¬ (mod = 0 ∧ base = 5)) : (d.present || base != 5) = true := by
  by_cases h0 : mod = 0
  · rw [bne_iff_ne.2 fun hb => h5 ⟨h0, hb⟩, Bool.or_true]
  · rw [hp h0, Bool.true_or]

/-- An address that is read is canonical, and has the length of R104. -/
theorem readAddr_consumes {x b : Bool} {mod : BitVec 2} {rm : BitVec 3} {bs rest : List Byte} {a : Addr}
    (h : readAddr x b mod rm bs = some (a, rest)) : a.canonical = true ∧ Consumes a.length bs rest := by
  obtain ⟨h4, h5, heq⟩ | heq | ⟨-, heq⟩ | ⟨sib, tail, rfl, ⟨h5, heq⟩ | heq⟩ := readAddr_cases x b mod rm bs
  case inr.inr.inl => rw [heq] at h; cases h
  all_goals
    rw [heq] at h
    obtain ⟨⟨d, tail⟩, hd, heq⟩ := Option.map_eq_some_iff.1 h
    obtain ⟨rfl, rfl⟩ := Prod.mk.inj heq
  · obtain ⟨hc, hp⟩ := readDisp_consumes hd
    have h4 : (rm != 4#3) = true := bne_iff_ne.2 h4
    refine ⟨?_, hc⟩
    rw [Addr.canonical, setWidth_bit_append, h4, Bool.true_and]
    exact present_or_ne_five hp h5
  · exact ⟨rfl, readDisp32_consumes hd⟩
  · obtain ⟨hc, hp⟩ := readDisp_consumes hd
    constructor
    · rw [Addr.canonical, setWidth_bit_append]
      exact present_or_ne_five hp h5
    · rw [Addr.length, Nat.add_comm]
      exact hc.cons
  · exact ⟨rfl, (readDisp32_consumes hd).cons⟩

theorem Addr.length_le (a : Addr) : a.length ≤ 5 := by
  cases a with
  | base b d | sib s i b d => cases d <;> simp [Addr.length, Disp.length]
  | disp32 d | sibDisp32 s i d => simp [Addr.length]

theorem readAddr_total (x b : Bool) (mod : BitVec 2) (rm : BitVec 3) {bs : List Byte} (h : 5 ≤ bs.length) :
    ∃ a, readAddr x b mod rm bs = some a := by
  obtain ⟨-, -, heq⟩ | heq | ⟨rfl, -⟩ | ⟨sib, tail, rfl, ⟨-, heq⟩ | heq⟩ := readAddr_cases x b mod rm bs
  · obtain ⟨d, hd⟩ := readDisp_total mod (bs := bs) (by omega)
    exact ⟨_, by rw [heq, hd]; rfl⟩
  · obtain ⟨d, hd⟩ := readDisp32_total (bs := bs) (by omega)
    exact ⟨_, by rw [heq, hd]; rfl⟩
  · simp at h
  · obtain ⟨d, hd⟩ := readDisp_total mod (bs := tail) (by simpa using h)
    exact ⟨_, by rw [heq, hd]; rfl⟩
  · obtain ⟨d, hd⟩ := readDisp32_total (bs := tail) (by simpa using h)
    exact ⟨_, by rw [heq, hd]; rfl⟩

/-! ## The r/m operand (R98, R102) -/

/-- Only packed forms have a vector length of their own. -/
theorem LenKind.eq_v128_of_length {k : LenKind} {ll : BitVec 2} {vl : VL} (h : k.length ll = some vl) (hk : k ≠ .packed) :
    vl = .v128 := by
  cases k with
  | packed => exact absurd rfl hk
  | only128 =>
    rw [LenKind.length] at h
    split at h <;> cases h
    rfl
  | llig => cases h; rfl

theorem Op.regLoc_eq_some {p : Parts} {r : VReg} {bb : Bool} {ll : BitVec 2}
    (h : p.op.regLoc r bb ll = some (p.raw.rm.loc, p.vl)) :
    p.raw.rm.loc.register = some r ∧ p.locOk = true ∧ (p.op.info.len ≠ .packed → p.vl = .v128) := by
  unfold Op.regLoc at h
  unfold Parts.locOk
  split at h
  next =>
    split at h
    next => cases h
    next her =>
      obtain ⟨hl, hv⟩ := Prod.mk.inj (Option.some.inj h)
      rw [← hl, ← hv]
      exact ⟨rfl, by simp [her], fun hp => absurd (Op.packed_of_er her) hp⟩
    next hsae =>
      obtain ⟨hl, hv⟩ := Prod.mk.inj (Option.some.inj h)
      rw [← hl, ← hv]
      refine ⟨rfl, ?_, fun hp => by simp [hp]⟩
      cases hp : p.op.info.len <;> simp [hsae]
  next =>
    obtain ⟨vl, hvl, heq⟩ := Option.map_eq_some_iff.1 h
    obtain ⟨hl, hv⟩ := Prod.mk.inj heq
    rw [← hl, ← hv]
    exact ⟨rfl, rfl, LenKind.eq_v128_of_length hvl⟩

theorem Op.memLoc_eq_some {p : Parts} {a : Addr} {bb : Bool} {ll : BitVec 2}
    (h : p.op.memLoc a bb ll = some (p.raw.rm.loc, p.vl)) :
    p.raw.rm.loc.addr = some a ∧ p.locOk = true ∧ (p.op.info.len ≠ .packed → p.vl = .v128) := by
  unfold Op.memLoc at h
  unfold Parts.locOk
  split at h
  next => cases h
  next hb =>
    obtain ⟨vl, hvl, heq⟩ := Option.map_eq_some_iff.1 h
    obtain ⟨hl, hv⟩ := Prod.mk.inj heq
    rw [← hl, ← hv]
    cases bb with
    | true => exact ⟨rfl, by simpa using hb, LenKind.eq_v128_of_length hvl⟩
    | false => exact ⟨rfl, rfl, LenKind.eq_v128_of_length hvl⟩

theorem Loc.addrOk_length_of_register {l : Loc} {r : VReg} (h : l.register = some r) : l.addrOk = true ∧ l.length = 0 := by
  cases l with
  | reg q | regEr q _ | regSae q => exact ⟨rfl, rfl⟩
  | mem a | bcst a => cases h

theorem Loc.addrOk_length_of_addr {l : Loc} {a : Addr} (h : l.addr = some a) :
    l.addrOk = a.canonical ∧ l.length = a.length := by
  cases l with
  | reg q | regEr q _ | regSae q => cases h
  | mem b | bcst b => cases h; exact ⟨rfl, rfl⟩

/-- An r/m operand that is read is well-formed, and has the length of R104. -/
theorem Op.readRm_consumes {p : Parts} {e : Evex} {modrm : Byte} {bs rest : List Byte}
    (h : p.op.readRm e modrm bs = some (some (p.raw.rm.loc, p.vl), rest)) :
    p.locOk = true ∧ p.raw.rm.loc.addrOk = true ∧ (p.op.info.len ≠ .packed → p.vl = .v128) ∧
      Consumes p.raw.rm.loc.length bs rest := by
  unfold Op.readRm at h
  split at h
  next =>
    obtain ⟨hl, rfl⟩ := Prod.mk.inj (Option.some.inj h)
    obtain ⟨hr, hok, hv⟩ := Op.regLoc_eq_some hl
    obtain ⟨ha, hlen⟩ := Loc.addrOk_length_of_register hr
    exact ⟨hok, ha, hv, hlen ▸ .refl _⟩
  next =>
    obtain ⟨⟨a, tail⟩, hread, heq⟩ := Option.map_eq_some_iff.1 h
    obtain ⟨hl, rfl⟩ := Prod.mk.inj heq
    obtain ⟨hr, hok, hv⟩ := Op.memLoc_eq_some hl
    obtain ⟨ha, hlen⟩ := Loc.addrOk_length_of_addr hr
    obtain ⟨hcan, hcon⟩ := readAddr_consumes hread
    exact ⟨hok, ha.trans hcan, hv, hlen ▸ hcon⟩

theorem Op.readImm_consumes {op : Op} {imm : Byte} {bs rest : List Byte} (h : op.readImm bs = some (imm, rest)) :
    (op.hasImm = false → imm = 0) ∧ Consumes (if op.hasImm then 1 else 0) bs rest := by
  unfold Op.readImm at h
  split at h
  next hi =>
    cases bs with
    | nil => cases h
    | cons b bs =>
      obtain ⟨-, rfl⟩ := Prod.mk.inj (Option.some.inj h)
      exact ⟨fun hn => absurd (hi.symm.trans hn) (by decide), if_pos hi ▸ (Consumes.refl _).cons⟩
  next hi =>
    obtain ⟨rfl, rfl⟩ := Prod.mk.inj (Option.some.inj h)
    exact ⟨fun _ => rfl, if_neg hi ▸ .refl _⟩

/-! ## The fields (R96, R101, R103) -/

theorem DestKind.setWidth_number {d : DestKind} {m : Mode} {e : Evex} {reg : BitVec 3} {r : VReg}
    (h : d.number m e reg = some r) : (r.setWidth d.bits).setWidth 5 = r := by
  have low3 : ∀ reg : BitVec 3, ((0#2 ++ reg : VReg).setWidth 3).setWidth 5 = 0#2 ++ reg := by decide
  have low4 : ∀ (b : Bool) (reg : BitVec 3),
      ((0#1 ++ bit b ++ reg : VReg).setWidth 4).setWidth 5 = 0#1 ++ bit b ++ reg := by decide
  unfold DestKind.number at h
  cases d with
  | vector => simp [DestKind.bits]
  | opmask =>
    dsimp only at h
    split at h <;> cases h
    exact low3 reg
  | general =>
    dsimp only at h
    split at h <;> cases h
    exact low4 _ reg

theorem Op.vvvvNumber_eq_zero {op : Op} {m : Mode} {e : Evex} {v : VReg} (h : op.vvvvNumber m e = some v)
    (hu : op.info.usesV = false) : v = 0 := by
  rw [Op.vvvvNumber, hu, if_neg (by decide)] at h
  split at h <;> cases h
  rfl

theorem Op.fields_keeps {p : Parts} {op : Op} {m : Mode} {e : Evex} {reg : BitVec 3} {loc : Option (Loc × VL)}
    {pfx : List LegacyPrefix} {imm : Byte} (h : op.fields m e reg loc pfx imm = some p) :
    p.op = op ∧ loc = some (p.raw.rm.loc, p.vl) ∧ p.raw.rm.pfx = pfx := by
  obtain ⟨-, -, -, d, v, l, vl, -, -, hl, rfl⟩ := Op.fields_eq_some_iff.1 h
  exact ⟨rfl, hl, rfl⟩

/-- Accepted fields with an r/m operand that was read make well-shaped parts. -/
theorem Parts.shaped_of_fields {p : Parts} {op : Op} {m : Mode} {e : Evex} {reg : BitVec 3} {loc : Option (Loc × VL)}
    {pfx : List LegacyPrefix} {imm : Byte} (h : op.fields m e reg loc pfx imm = some p)
    (hvl : p.op.info.len ≠ .packed → p.vl = .v128) (himm : op.hasImm = false → imm = 0) :
    p.Shaped ∧ p.zeroOk = true := by
  obtain ⟨-, -, hmask, d, v, l, vl, hd, hv, -, rfl⟩ := Op.fields_eq_some_iff.1 h
  obtain ⟨haaa, hz, hzero⟩ := (op.maskOk_iff e).1 hmask
  refine ⟨⟨hvl, DestKind.setWidth_number hd, Op.vvvvNumber_eq_zero hv, fun hm => (haaa hm).1, hz, himm⟩, ?_⟩
  cases hez : e.z with
  | true => simpa [Parts.zeroOk, hez] using hzero hez
  | false => simp [Parts.zeroOk]

/-! ## What is accepted -/

/-- An operand part that is accepted has read r/m and the immediate, and its fields are accepted. -/
theorem decodeOperands_eq_parts {lead : Lead} {op : Op} {e : Evex} {modrm : Byte} {bs rest : List Byte} {p : Parts}
    (h : decodeOperands .mode64 lead op e modrm bs = .parts p rest) :
    ∃ loc bs' imm, op.readRm e modrm bs = some (loc, bs') ∧ op.readImm bs' = some (imm, rest) ∧
      lead.forbidden = false ∧ op.fields .mode64 e (modrm.extractLsb' 3 3) loc lead.pfx imm = some p := by
  rw [decodeOperands_mode64] at h
  cases hrm : op.readRm e modrm bs with
  | none => rw [hrm] at h; cases h
  | some l =>
    rw [hrm, Option.bind_some] at h
    cases himm : op.readImm l.2 with
    | none => rw [himm] at h; cases h
    | some i =>
      rw [himm, Option.map_some, Option.getD_some, finishDecode_eq_parts] at h
      obtain ⟨hf, hp, rfl⟩ := h
      exact ⟨l.1, l.2, i.1, rfl, himm, hf, hp⟩

/-- What is accepted from 62H on is well-shaped and well-formed, but for its length. -/
theorem decodeOperands_accepts {lead : Lead} {op : Op} {e : Evex} {modrm : Byte} {bs rest : List Byte} {p : Parts}
    (h : decodeOperands .mode64 lead op e modrm bs = .parts p rest) :
    lead.forbidden = false ∧ p.raw.rm.pfx = lead.pfx ∧ p.Shaped ∧ p.zeroOk = true ∧ p.locOk = true ∧
      p.raw.rm.loc.addrOk = true ∧ Consumes (p.raw.rm.loc.length + if p.op.hasImm then 1 else 0) bs rest := by
  obtain ⟨loc, bs', imm, hrm, himm, hf, hfields⟩ := decodeOperands_eq_parts h
  obtain ⟨rfl, rfl, hpfx⟩ := Op.fields_keeps hfields
  obtain ⟨hzero, hcimm⟩ := Op.readImm_consumes himm
  obtain ⟨hl, ha, hvl, hcrm⟩ := Op.readRm_consumes hrm
  obtain ⟨hs, hz⟩ := Parts.shaped_of_fields hfields hvl hzero
  exact ⟨hf, hpfx, hs, hz, hl, ha, hcrm.trans hcimm⟩

theorem decodeEvex_eq_parts {lead : Lead} {rest : List Byte} {p : Parts}
    (h : decodeEvex .mode64 lead = .parts p rest) :
    ∃ op e modrm tail, Consumes 6 lead.rest tail ∧ decodeOperands .mode64 lead op e modrm tail = .parts p rest := by
  unfold decodeEvex at h
  split at h
  next => cases h
  next esc bs heq =>
    split at h
    next => cases h
    next =>
      split at h
      next p0 p1 p2 opcode modrm tail =>
        dsimp only at h
        split at h
        next => cases h
        next =>
          split at h
          next => cases h
          next op hop => exact ⟨op, _, modrm, tail, ⟨[esc, p0, p1, p2, opcode, modrm], heq, rfl⟩, h⟩
      next => cases h

/-- What the decoder accepts. -/
theorem decodeParts_accepts {bs rest : List Byte} {p : Parts} (h : decodeParts .mode64 bs = .parts p rest) :
    p.Shaped ∧ p.wf = true ∧ Consumes (p.op.length p.raw.rm) bs rest := by
  rw [decodeParts_eq] at h
  cases hd : decodeEvex .mode64 (scanLead .mode64 (bs.take 15)) with
  | invalid | rejected r => rw [hd] at h; cases h
  | parts q tail =>
    rw [hd] at h
    cases h
    obtain ⟨op, e, modrm, bs6, h6, hops⟩ := decodeEvex_eq_parts hd
    obtain ⟨hf, hpfx, hs, hz, hl, ha, hcon⟩ := decodeOperands_accepts hops
    have hcon : Consumes (p.op.length p.raw.rm) (bs.take 15) tail := by
      have hall := (scanLead_consumes .mode64 _ hf).trans (h6.trans hcon)
      rwa [← hpfx, ← Nat.add_assoc, ← Nat.add_assoc] at hall
    have hlen : p.op.length p.raw.rm ≤ 15 := by
      have h15 := hcon.length_eq
      rw [List.length_take] at h15
      omega
    refine ⟨hs, Parts.wf_iff.2 ⟨hlen, hz, hl, ha⟩, ?_⟩
    simpa using hcon.append (bs.drop 15)

theorem decode_eq_instr {m : Mode} {bs rest : List Byte} {i : Instr} (h : decode m bs = .instr i rest) :
    ∃ p, decodeParts m bs = .parts p rest ∧ p.instr = i := by
  unfold decode at h
  split at h
  next p tail hp => cases h; exact ⟨p, hp, rfl⟩
  next => cases h
  next => cases h

theorem Op.six_le_length (op : Op) (rm : RM) : 6 ≤ op.length rm := by
  rw [Op.length]
  omega

/-- Settles O2: the form has the parts that were decoded. -/
theorem decodedIsWellFormed : Obligations.DecodedIsWellFormed := by
  intro bs i rest h
  obtain ⟨p, hp, rfl⟩ := decode_eq_instr h
  obtain ⟨hs, hw, hcon⟩ := decodeParts_accepts hp
  rw [Instr.wf, Instr.length, hs.parts_instr]
  exact ⟨hw, p.op.six_le_length _, (Parts.wf_iff.1 hw).1, hcon⟩

end Sys2Proof
end

section
/-! PROOFS. When an encoding whose bytes are all there is accepted (spec/30_encoding.md R108 f to j). -/

namespace Sys2Proof

/-! ## Each condition -/

theorem LenKind.length_isSome (k : LenKind) (ll : BitVec 2) :
    (∃ vl, k.length ll = some vl) ↔ (k = .packed → ll ≠ 3#2) ∧ (k = .only128 → ll = 0#2) := by
  have hll : ll = 0#2 ∨ ll = 1#2 ∨ ll = 2#2 ∨ ll = 3#2 := by decide +revert
  cases k with
  | packed => obtain rfl | rfl | rfl | rfl := hll <;> simp [LenKind.length]
  | only128 => obtain rfl | rfl | rfl | rfl := hll <;> simp [LenKind.length]
  | llig => simp [LenKind.length]

theorem Op.regLoc_isSome (op : Op) (r : VReg) (bb : Bool) (ll : BitVec 2) :
    (∃ l, op.regLoc r bb ll = some l) ↔ (bb = true → op.info.regB ≠ .none) ∧
      (bb = false → ∃ vl, op.info.len.length ll = some vl) := by
  cases bb with
  | true => cases hb : op.info.regB <;> simp [Op.regLoc, hb]
  | false => cases hl : op.info.len.length ll <;> simp [Op.regLoc, hl]

theorem Op.memLoc_isSome (op : Op) (a : Addr) (bb : Bool) (ll : BitVec 2) :
    (∃ l, op.memLoc a bb ll = some l) ↔ (bb = true → op.info.bcst = true) ∧
      ∃ vl, op.info.len.length ll = some vl := by
  cases bb with
  | true => cases hb : op.info.bcst <;> cases hl : op.info.len.length ll <;> simp [Op.memLoc, hb, hl]
  | false => cases hl : op.info.len.length ll <;> simp [Op.memLoc, hl]

theorem DestKind.number_isSome (d : DestKind) (m : Mode) (e : Evex) (reg : BitVec 3) :
    (∃ r, d.number m e reg = some r) ↔
      (d = .opmask → e.r = false ∧ e.r' = false) ∧ (d = .general → e.r' = false) := by
  cases d <;> simp [DestKind.number]

theorem Op.vvvvNumber_isSome (op : Op) (m : Mode) (e : Evex) :
    (∃ v, op.vvvvNumber m e = some v) ↔ (op.info.usesV = false → e.vvvv = 0 ∧ e.v' = false) := by
  cases hu : op.info.usesV <;> simp [Op.vvvvNumber, hu]

theorem Op.fields_isSome (op : Op) (m : Mode) (e : Evex) (reg : BitVec 3) (loc : Option (Loc × VL))
    (pfx : List LegacyPrefix) (imm : Byte) :
    (∃ p, op.fields m e reg loc pfx imm = some p) ↔
      e.p0b3 = false ∧ e.p1b2 = true ∧ op.maskOk e = true ∧ (∃ d, op.info.dest.number m e reg = some d) ∧
        (∃ v, op.vvvvNumber m e = some v) ∧ ∃ l, loc = some l := by
  simp only [Op.fields_eq_some_iff]
  constructor
  · rintro ⟨p, h3, h2, hm, d, v, l, vl, hd, hv, hl, -⟩
    exact ⟨h3, h2, hm, ⟨d, hd⟩, ⟨v, hv⟩, (l, vl), hl⟩
  · rintro ⟨h3, h2, hm, ⟨d, hd⟩, ⟨v, hv⟩, ⟨l, vl⟩, hl⟩
    exact ⟨_, h3, h2, hm, d, v, l, vl, hd, hv, hl, rfl⟩

/-- Where enough bytes follow, r/m is read, at least one byte is left, and the operand is accepted where `EVEX.b` and `L'L`
are allowed. -/
theorem Op.readRm_total (op : Op) (e : Evex) {modrm : Byte} {bs : List Byte}
    (h : modrm.extractLsb' 6 2 = 3#2 ∧ 1 ≤ bs.length ∨ 6 ≤ bs.length) :
    ∃ loc bs', op.readRm e modrm bs = some (loc, bs') ∧ 1 ≤ bs'.length ∧
      ((∃ l, loc = some l) ↔
        (e.bb = true → modrm.extractLsb' 6 2 = 3#2 → op.info.regB ≠ .none) ∧
        (e.bb = true → ¬ modrm.extractLsb' 6 2 = 3#2 → op.info.bcst = true) ∧
        (¬ (modrm.extractLsb' 6 2 = 3#2 ∧ e.bb = true) → ∃ vl, op.info.len.length e.ll = some vl)) := by
  unfold Op.readRm
  by_cases hreg : modrm.extractLsb' 6 2 = 3#2
  · refine ⟨_, bs, if_pos hreg, by omega, ?_⟩
    rw [Op.regLoc_isSome]
    simp [hreg]
  · have hlen : 6 ≤ bs.length := h.resolve_left fun hr => hreg hr.1
    obtain ⟨⟨a, bs'⟩, ha⟩ :=
      readAddr_total e.x e.b (modrm.extractLsb' 6 2) (modrm.extractLsb' 0 3) (bs := bs) (by omega)
    have hrest := (readAddr_consumes ha).2.length_eq
    have hale := a.length_le
    refine ⟨_, bs', (if_neg hreg).trans (congrArg _ ha), by omega, ?_⟩
    rw [Op.memLoc_isSome]
    simp [hreg]

theorem Op.readImm_total (op : Op) {bs : List Byte} (h : 1 ≤ bs.length) : ∃ q, op.readImm bs = some q := by
  cases bs with
  | nil => simp at h
  | cons b bs => cases hi : op.hasImm <;> simp [Op.readImm, hi]

/-! ## The whole encoding -/

/-- The EVEX fields meet every condition (f) to (j) of R108; `isReg` says that r/m is a register. -/
structure Op.Legal (op : Op) (e : Evex) (isReg : Prop) : Prop where
  p0b3  : e.p0b3 = false
  p1b2  : e.p1b2 = true
  mask  : op.maskOk e = true
  dest  : (op.info.dest = .opmask → e.r = false ∧ e.r' = false) ∧ (op.info.dest = .general → e.r' = false)
  vvvv  : op.info.usesV = false → e.vvvv = 0 ∧ e.v' = false
  regB  : e.bb = true → isReg → op.info.regB ≠ .none
  bcst  : e.bb = true → ¬ isReg → op.info.bcst = true
  len   : ¬ (isReg ∧ e.bb = true) → ∃ vl, op.info.len.length e.ll = some vl

/-- An encoding from 62H on whose bytes are all there is accepted, or #UD, by its EVEX fields. -/
theorem decodeParts_of_find {op : Op} {p0 p1 p2 opcode modrm : Byte} {tail : List Byte}
    (hop : Op.find (p0.extractLsb' 0 3) (p1.extractLsb' 0 2) (p1.getLsbD 7) opcode = some op)
    (hlen : modrm.extractLsb' 6 2 = 3#2 ∧ 1 ≤ tail.length ∨ 6 ≤ tail.length) :
    ∃ o rest, decodeParts .mode64 (0x62 :: p0 :: p1 :: p2 :: opcode :: modrm :: tail) =
        (finishDecode false o rest).followedBy (tail.drop 9) ∧
      (∀ p, o = some p → p.op = op) ∧
      ((∃ p, o = some p) ↔ op.Legal (Evex.ofBytes p0 p1 p2) (modrm.extractLsb' 6 2 = 3#2)) := by
  have hlen9 : modrm.extractLsb' 6 2 = 3#2 ∧ 1 ≤ (tail.take 9).length ∨ 6 ≤ (tail.take 9).length := by
    rw [List.length_take]
    exact hlen.imp (And.imp_right (by omega)) (by omega)
  obtain ⟨loc, bs', hrm, hbs', hloc⟩ := op.readRm_total (Evex.ofBytes p0 p1 p2) hlen9
  obtain ⟨⟨imm, rest⟩, himm⟩ := op.readImm_total hbs'
  refine ⟨op.fields .mode64 (Evex.ofBytes p0 p1 p2) (modrm.extractLsb' 3 3) loc [] imm, rest, ?_,
    fun p hp => (Op.fields_keeps hp).1, ?_⟩
  · refine (decodeParts_append (bs := [0x62, p0, p1, p2, opcode, modrm]) (by simp) tail).trans ?_
    refine congrArg (DecodedParts.followedBy · _) ?_
    refine (congrArg (decodeEvex .mode64) (scanLead_legacy .mode64 [] _)).trans ?_
    exact (decodeEvex_of_find hop).trans (decodeOperands_of_read hrm himm)
  · rw [Op.fields_isSome, DestKind.number_isSome, Op.vvvvNumber_isSome, hloc]
    exact ⟨fun ⟨h3, h2, hm, hd, hv, hr, hb, hl⟩ => ⟨h3, h2, hm, hd, hv, hr, hb, hl⟩,
      fun ⟨h3, h2, hm, hd, hv, hr, hb, hl⟩ => ⟨h3, h2, hm, hd, hv, hr, hb, hl⟩⟩

/-- The conditions of R108 (f) to (j) in the bits of P0, P1 and P2. -/
theorem Op.legal_ofBytes_iff (op : Op) (p0 p1 p2 : Byte) (isReg : Prop) :
    op.Legal (Evex.ofBytes p0 p1 p2) isReg ↔
      p0.getLsbD 3 = false ∧ p1.getLsbD 2 = true ∧
      (op.info.usesV = false → p1.extractLsb' 3 4 = 15#4 ∧ p2.getLsbD 3 = true) ∧
      (op.info.dest = .opmask → p0.getLsbD 7 = true ∧ p0.getLsbD 4 = true) ∧
      (op.info.dest = .general → p0.getLsbD 4 = true) ∧
      (op.info.masked = false → p2.extractLsb' 0 3 = 0#3 ∧ p2.getLsbD 7 = false) ∧
      (op.info.zeroing = false → p2.getLsbD 7 = false) ∧
      (p2.getLsbD 7 = true → p2.extractLsb' 0 3 ≠ 0#3) ∧
      (p2.getLsbD 4 = true → isReg → op.info.regB ≠ .none) ∧
      (p2.getLsbD 4 = true → ¬ isReg → op.info.bcst = true) ∧
      (¬ (isReg ∧ p2.getLsbD 4 = true) → op.info.len = .packed → p2.extractLsb' 5 2 ≠ 3#2) ∧
      (¬ (isReg ∧ p2.getLsbD 4 = true) → op.info.len = .only128 → p2.extractLsb' 5 2 = 0#2) := by
  have hvvvv : ∀ v : BitVec 4, ~~~v = 0 ↔ v = 15#4 := by decide
  constructor
  · rintro ⟨h3, h2, hm, ⟨hk, hg⟩, hv, hr, hb, hl⟩
    obtain ⟨haaa, hz, hzero⟩ := (op.maskOk_iff _).1 hm
    simp only [LenKind.length_isSome] at hl
    simp only [Evex.ofBytes, Bool.not_eq_false', hvvvv] at *
    exact ⟨h3, h2, hv, hk, hg, haaa, hz, hzero, hr, hb, fun h => (hl h).1, fun h => (hl h).2⟩
  · rintro ⟨h3, h2, hv, hk, hg, haaa, hz, hzero, hr, hb, hp, ho⟩
    refine ⟨h3, h2, (op.maskOk_iff _).2 ⟨haaa, hz, hzero⟩, ?_, ?_, hr, hb, ?_⟩
    · simpa only [Evex.ofBytes, Bool.not_eq_false'] using ⟨hk, hg⟩
    · simpa only [Evex.ofBytes, Bool.not_eq_false', hvvvv] using hv
    · exact fun h => (LenKind.length_isSome _ _).2 ⟨hp h, ho h⟩

/-- Settles O5: the conditions are those under which the fields are accepted. -/
theorem reservedFieldsUndefined : Obligations.ReservedFieldsUndefined := by
  intro op p0 p1 p2 opcode modrm tail hop hlen isReg legal
  obtain ⟨o, rest, hdec, hkeep, hiff⟩ := decodeParts_of_find hop hlen
  have hlegal : (∃ p, o = some p) ↔ legal := hiff.trans (op.legal_ofBytes_iff p0 p1 p2 isReg)
  constructor
  · intro h
    obtain ⟨p, rfl⟩ := hlegal.2 h
    exact ⟨p.instr, _, p.op_instr.trans (hkeep p rfl), decode_of_parts hdec⟩
  · intro h
    cases o with
    | none => exact decode_of_invalid hdec
    | some p => exact absurd (hlegal.1 ⟨p, rfl⟩) h

end Sys2Proof
end

section
/-! PROOFS. Rounding to an integer: what it does to a rational value and to a shifted significand, and that the two agree
(spec/40_numerics_helpers.md R133, R135). -/

namespace Sys2Proof.Machine

/-! ## Rounding to an integer (R135) -/

/-- An integer is left as it is. -/
@[simp] theorem RoundMode.toIntegral_intCast (rm : RoundMode) (z : ℤ) : rm.toIntegral (z : ℚ) = z := by
  cases rm <;> simp [RoundMode.toIntegral]

/-- Rounding changes exactly the values that are not integers. -/
theorem RoundMode.toIntegral_eq_iff (rm : RoundMode) (v : ℚ) : (rm.toIntegral v : ℚ) = v ↔ ∃ z : ℤ, v = z := by
  constructor
  · exact fun h => ⟨_, h.symm⟩
  · rintro ⟨z, rfl⟩
    rw [rm.toIntegral_intCast]

/-- Rounding to nearest even is decided by the distance, whatever the sign. -/
theorem RoundMode.toIntegral_rne_eq {v : ℚ} {n : ℤ} (h : |v - n| < 1 / 2 ∨ |v - n| = 1 / 2 ∧ n % 2 = 0) :
    RoundMode.rne.toIntegral v = n := by
  have hle : |v - n| ≤ 1 / 2 := h.elim le_of_lt fun h => h.1.le
  obtain ⟨hlo, hhi⟩ := abs_le.1 hle
  by_cases hn : (n : ℚ) ≤ v
  · have hf : ⌊v⌋ = n := Int.floor_eq_iff.2 ⟨hn, by linarith⟩
    rw [abs_of_nonneg (by linarith)] at h
    simp only [RoundMode.toIntegral, hf]
    rcases h with h | ⟨h, heven⟩
    · rw [if_pos h]
    · rw [if_neg (by linarith), if_neg (by linarith), if_pos heven]
  · have hf : ⌊v⌋ = n - 1 := Int.floor_eq_iff.2 ⟨by push_cast; linarith, by push_cast; linarith⟩
    rw [abs_of_neg (by linarith)] at h
    simp only [RoundMode.toIntegral, hf, Int.cast_sub, Int.cast_one, sub_add_cancel]
    rw [if_neg (by linarith)]
    rcases h with h | ⟨h, heven⟩
    · rw [if_pos (by linarith)]
    · rw [if_neg (by linarith), if_neg (by omega)]

/-- `m / 2^sh` is its quotient and the remaining fraction. -/
theorem div_two_pow_eq (m sh : ℕ) : (m : ℚ) / 2 ^ sh = (m / 2 ^ sh : ℕ) + ((m % 2 ^ sh : ℕ) : ℚ) / 2 ^ sh := by
  have h : ((2 ^ sh * (m / 2 ^ sh) + m % 2 ^ sh : ℕ) : ℚ) = m := congrArg Nat.cast (Nat.div_add_mod m (2 ^ sh))
  rw [← h]
  push_cast
  field_simp

theorem mod_two_pow_div_lt_one (m sh : ℕ) : ((m % 2 ^ sh : ℕ) : ℚ) / 2 ^ sh < 1 :=
  (div_lt_one (by positivity)).2 (by exact_mod_cast Nat.mod_lt m (Nat.two_pow_pos sh))

theorem floor_div_two_pow (m sh : ℕ) : ⌊(m : ℚ) / 2 ^ sh⌋ = (m / 2 ^ sh : ℕ) := by
  simpa using Rat.floor_natCast_div_natCast m (2 ^ sh)

theorem ceil_div_two_pow (m sh : ℕ) :
    ⌈(m : ℚ) / 2 ^ sh⌉ = (if m % 2 ^ sh = 0 then m / 2 ^ sh else m / 2 ^ sh + 1 : ℕ) := by
  have hlt := mod_two_pow_div_lt_one m sh
  rw [Int.ceil_eq_iff, div_two_pow_eq, Int.cast_natCast]
  split
  next h => simp [h]
  next h =>
    have hpos : (0 : ℚ) < ((m % 2 ^ sh : ℕ) : ℚ) / 2 ^ sh := by
      have : 0 < m % 2 ^ sh := Nat.pos_of_ne_zero h
      positivity
    rw [Nat.cast_succ]
    constructor <;> linarith

/-- The quotient is an integer where nothing is shifted out. -/
theorem div_two_pow_eq_intCast_iff (m sh : ℕ) : (∃ z : ℤ, (m : ℚ) / 2 ^ sh = z) ↔ m % 2 ^ sh = 0 := by
  constructor
  · rintro ⟨z, hz⟩
    have hfloor : z = (m / 2 ^ sh : ℕ) := by rw [← floor_div_two_pow, hz, Int.floor_intCast]
    have hrem : ((m % 2 ^ sh : ℕ) : ℚ) / 2 ^ sh = 0 := by
      have := div_two_pow_eq m sh
      rw [hz, hfloor, Int.cast_natCast] at this
      linarith
    exact_mod_cast (div_eq_zero_iff.1 hrem).resolve_right (by positivity)
  · intro h
    exact ⟨(m / 2 ^ sh : ℕ), by rw [div_two_pow_eq, h, Int.cast_natCast, Nat.cast_zero, zero_div, add_zero]⟩

/-! ## Rounding a shifted significand -/

/-- To nearest even: up above one half, and in a tie from an odd quotient. -/
theorem roundShift_rne (neg : Bool) (m sh : ℕ) :
    roundShift .rne neg m sh =
      if 2 ^ sh < 2 * (m % 2 ^ sh) ∨ 2 * (m % 2 ^ sh) = 2 ^ sh ∧ m / 2 ^ sh % 2 = 1 then m / 2 ^ sh + 1
      else m / 2 ^ sh := by
  simp [roundShift]

theorem roundShift_eq_or (rm : RoundMode) (neg : Bool) (m sh : ℕ) :
    roundShift rm neg m sh = m / 2 ^ sh ∨ roundShift rm neg m sh = m / 2 ^ sh + 1 :=
  (ite_eq_or_eq _ _ _).symm

/-- To nearest even as the sum with half a unit, less one unless the quotient is odd. -/
theorem roundShift_rne_eq (neg : Bool) (m s : ℕ) :
    roundShift .rne neg m (s + 1) = (m + (2 ^ s - 1) + m / 2 ^ (s + 1) % 2) / 2 ^ (s + 1) := by
  have hlt := Nat.mod_lt m (Nat.two_pow_pos (s + 1))
  have hdouble : 2 ^ (s + 1) = 2 * 2 ^ s := pow_succ' 2 s
  have hsum : m + (2 ^ s - 1) + m / 2 ^ (s + 1) % 2 =
      2 ^ (s + 1) * (m / 2 ^ (s + 1)) + (m % 2 ^ (s + 1) + (2 ^ s - 1) + m / 2 ^ (s + 1) % 2) := by
    have := Nat.div_add_mod m (2 ^ (s + 1))
    omega
  rw [hsum, Nat.mul_add_div (Nat.two_pow_pos _), roundShift_rne]
  generalize m / 2 ^ (s + 1) = q, m % 2 ^ (s + 1) = r at *
  split
  next hup => rw [Nat.div_eq_of_lt_le (k := 1) (by omega) (by omega)]
  next hdown => rw [Nat.div_eq_of_lt (by omega), add_zero]

/-- Rounding to nearest even reads the quotient and which side of one half the remainder is on. -/
theorem roundShift_rne_congr (neg : Bool) {a b s t : ℕ} (hquot : a / 2 ^ s = b / 2 ^ t)
    (habove : 2 ^ s < 2 * (a % 2 ^ s) ↔ 2 ^ t < 2 * (b % 2 ^ t))
    (htie : 2 * (a % 2 ^ s) = 2 ^ s ↔ 2 * (b % 2 ^ t) = 2 ^ t) :
    roundShift .rne neg a s = roundShift .rne neg b t := by
  simp only [roundShift_rne, hquot, habove, htie]

/-- To nearest even: at most half a unit away, and even where it is exactly that. -/
theorem roundShift_rne_near (neg : Bool) (m sh : ℕ) :
    |(m : ℚ) / 2 ^ sh - roundShift .rne neg m sh| < 1 / 2 ∨
      |(m : ℚ) / 2 ^ sh - roundShift .rne neg m sh| = 1 / 2 ∧ roundShift .rne neg m sh % 2 = 0 := by
  have hlt := mod_two_pow_div_lt_one m sh
  have hpos : (0 : ℚ) ≤ ((m % 2 ^ sh : ℕ) : ℚ) / 2 ^ sh := by positivity
  have habove : 2 ^ sh < 2 * (m % 2 ^ sh) ↔ 1 / 2 < ((m % 2 ^ sh : ℕ) : ℚ) / 2 ^ sh := by
    rw [div_lt_div_iff₀ (by norm_num) (by positivity), one_mul, mul_comm]
    exact_mod_cast Iff.rfl
  have htie : 2 * (m % 2 ^ sh) = 2 ^ sh ↔ ((m % 2 ^ sh : ℕ) : ℚ) / 2 ^ sh = 1 / 2 := by
    rw [div_eq_div_iff (by positivity) (by norm_num), one_mul, mul_comm 2]
    exact_mod_cast Iff.rfl
  rw [div_two_pow_eq]
  simp only [roundShift_rne, habove, htie]
  generalize ((m % 2 ^ sh : ℕ) : ℚ) / 2 ^ sh = t at *
  generalize m / 2 ^ sh = q
  split
  next h =>
    have ht : |(q : ℚ) + t - ((q + 1 : ℕ) : ℚ)| = 1 - t := by
      rw [Nat.cast_succ, abs_of_neg (by linarith)]
      ring
    rw [ht]
    rcases h with h | ⟨h, hodd⟩
    · exact .inl (by linarith)
    · exact .inr ⟨by linarith, Nat.succ_mod_two_eq_zero_iff.2 hodd⟩
  next h =>
    rw [add_sub_cancel_left, abs_of_nonneg hpos]
    push Not at h
    rcases h.1.lt_or_eq with hlt | heq
    · exact .inl hlt
    · exact .inr ⟨heq, by have := h.2 heq; omega⟩

theorem roundShift_of_down {rm : RoundMode} {neg : Bool}
    (h : rm = .rtz ∨ rm = .rdn ∧ neg = false ∨ rm = .rup ∧ neg = true) (m sh : ℕ) :
    (roundShift rm neg m sh : ℤ) = ⌊(m : ℚ) / 2 ^ sh⌋ := by
  rw [floor_div_two_pow]
  rcases h with rfl | ⟨rfl, rfl⟩ | ⟨rfl, rfl⟩ <;> rfl

theorem roundShift_of_up {rm : RoundMode} {neg : Bool} (h : rm = .rdn ∧ neg = true ∨ rm = .rup ∧ neg = false)
    (m sh : ℕ) : (roundShift rm neg m sh : ℤ) = ⌈(m : ℚ) / 2 ^ sh⌉ := by
  rw [ceil_div_two_pow]
  rcases h with ⟨rfl, rfl⟩ | ⟨rfl, rfl⟩ <;> simp [roundShift, apply_ite]

/-- Rounding a significand with a sign is rounding the value. -/
theorem toIntegral_signed_div (rm : RoundMode) (neg : Bool) (m sh : ℕ) :
    rm.toIntegral ((if neg then -1 else 1) * ((m : ℚ) / 2 ^ sh)) =
      if neg then -(roundShift rm neg m sh : ℤ) else roundShift rm neg m sh := by
  have hpos : (0 : ℚ) ≤ (m : ℚ) / 2 ^ sh := by positivity
  cases neg
  case false =>
    simp only [Bool.false_eq_true, if_false, one_mul]
    cases rm
    case rne => exact RoundMode.toIntegral_rne_eq (by exact_mod_cast roundShift_rne_near false m sh)
    case rup => rw [roundShift_of_up (by simp)]; rfl
    case rdn => rw [roundShift_of_down (by simp)]; rfl
    case rtz => rw [roundShift_of_down (by simp)]; exact if_pos hpos
  case true =>
    simp only [if_true, neg_mul, one_mul]
    cases rm
    case rne =>
      refine RoundMode.toIntegral_rne_eq ?_
      rw [Int.cast_neg, Int.cast_natCast, neg_sub_neg, abs_sub_comm]
      exact (roundShift_rne_near true m sh).imp_right fun ⟨htie, heven⟩ => ⟨htie, by omega⟩
    case rdn => rw [roundShift_of_up (by simp), ← Int.floor_neg]; rfl
    case rup => rw [roundShift_of_down (by simp), ← Int.ceil_neg]; rfl
    case rtz =>
      rw [roundShift_of_down (by simp), ← Int.ceil_neg]
      rcases hpos.eq_or_lt with h | h
      · simp [← h, RoundMode.toIntegral]
      · exact if_neg (by linarith)

/-- A significand with a scale that is not negative is an integer. -/
theorem mul_zpow_of_nonneg (m : ℕ) {e : ℤ} (he : 0 ≤ e) : (m : ℚ) * (2 : ℚ) ^ e = (m * 2 ^ e.toNat : ℕ) := by
  rw [Nat.cast_mul, Nat.cast_pow, Nat.cast_ofNat, ← zpow_natCast, Int.toNat_of_nonneg he]

/-- A negative scale shifts the significand out. -/
theorem mul_zpow_of_neg (m : ℕ) {e : ℤ} (he : e < 0) : (m : ℚ) * (2 : ℚ) ^ e = m / 2 ^ (-e).toNat := by
  rw [← zpow_natCast, Int.toNat_of_nonneg (by omega), zpow_neg, div_inv_eq_mul]

/-- A sign does not change whether a value is an integer. -/
theorem signed_eq_intCast_iff (neg : Bool) (v : ℚ) :
    (∃ z : ℤ, (if neg then -1 else 1) * v = z) ↔ ∃ z : ℤ, v = z := by
  cases neg
  case false => simp
  case true =>
    simp only [if_true, neg_mul, one_mul]
    exact ⟨fun ⟨z, hz⟩ => ⟨-z, by rw [Int.cast_neg, ← hz, neg_neg]⟩, fun ⟨z, hz⟩ => ⟨-z, by rw [hz, Int.cast_neg]⟩⟩

/-- `RoundToIntegral` of sign, significand and scale gives the rounded value. -/
theorem roundToIntegral_fst (rm : RoundMode) (neg : Bool) (m : ℕ) (e : ℤ) :
    (roundToIntegral rm neg m e).1 = rm.toIntegral ((if neg then -1 else 1) * ((m : ℚ) * (2 : ℚ) ^ e)) := by
  by_cases he : 0 ≤ e
  · have hint : (if neg then -1 else 1) * ((m : ℚ) * (2 : ℚ) ^ e) =
        ((if neg then -((m * 2 ^ e.toNat : ℕ) : ℤ) else (m * 2 ^ e.toNat : ℕ) : ℤ) : ℚ) := by
      rw [mul_zpow_of_nonneg m he]
      cases neg <;> simp
    rw [hint, rm.toIntegral_intCast]
    simp only [roundToIntegral, if_pos he]
  · rw [mul_zpow_of_neg m (not_le.1 he), toIntegral_signed_div]
    simp only [roundToIntegral, if_neg he]

/-- It reports a change exactly of a value that is not an integer. -/
theorem roundToIntegral_snd (rm : RoundMode) (neg : Bool) (m : ℕ) (e : ℤ) :
    (roundToIntegral rm neg m e).2 = true ↔ ¬ ∃ z : ℤ, (if neg then -1 else 1) * ((m : ℚ) * (2 : ℚ) ^ e) = z := by
  rw [signed_eq_intCast_iff]
  simp only [roundToIntegral, Bool.and_eq_true, decide_eq_true_eq, bne_iff_ne]
  by_cases he : 0 ≤ e
  · have hint : ∃ z : ℤ, (m : ℚ) * (2 : ℚ) ^ e = z := ⟨(m * 2 ^ e.toNat : ℕ), mul_zpow_of_nonneg m he⟩
    exact iff_of_false (fun h => absurd h.1 (not_lt.2 he)) (not_not_intro hint)
  · rw [mul_zpow_of_neg m (not_le.1 he), div_two_pow_eq_intCast_iff]
    exact and_iff_right (not_le.1 he)

/-! ## Finite values (R131, R133) -/

/-- The significand and the scale with their sign are the value. -/
theorem Fmt.rat_eq (f : Fmt) (x : ℕ) : f.rat x = (if f.sign x then -1 else 1) * ((f.mag x : ℚ) * (2 : ℚ) ^ f.scale x) :=
  mul_assoc _ _ _

theorem Fmt.isNaN_eq_false_of_isInf {f : Fmt} {x : ℕ} (h : f.isInf x = true) : f.isNaN x = false := by
  simp only [Fmt.isInf, Fmt.isNaN, Bool.and_eq_true, beq_iff_eq] at h ⊢
  simp [h.2]

/-- The top exponent holds infinities and NaNs alone. -/
theorem Fmt.isFinite_iff {f : Fmt} {x : ℕ} (hx : x < 2 ^ (1 + f.ebits + f.fbits)) :
    f.isFinite x = true ↔ f.isInf x = false ∧ f.isNaN x = false := by
  by_cases he : f.exp x = f.expOnes <;> by_cases hm : f.frac x = 0 <;>
    simp [Fmt.isFinite, Fmt.isInf, Fmt.isNaN, hx, he, hm]

end Sys2Proof.Machine
end

section
/-! PROOFS. The generic saturating convert, by the class of the source (spec/40_numerics_helpers.md R160). -/

namespace Sys2Proof.Machine

theorem satCvt_nan {f : Fmt} {x : ℕ} (h : f.isNaN x = true) (signed : Bool) (w : ℕ) (rm : RoundMode) :
    satCvt f x signed w rm = (0, flagIE) := if_pos h

theorem satCvt_inf {f : Fmt} {x : ℕ} (h : f.isInf x = true) (signed : Bool) (w : ℕ) (rm : RoundMode) :
    satCvt f x signed w rm = (if f.sign x then intMin signed w else intMax signed w, flagIE) := by
  simp [satCvt, Fmt.value, h, Fmt.isNaN_eq_false_of_isInf h]

/-- A finite source: its rounded value, clamped to the range of the destination. -/
theorem satCvt_finite {f : Fmt} {x : ℕ} (hinf : f.isInf x = false) (hnan : f.isNaN x = false) (signed : Bool) (w : ℕ)
    (rm : RoundMode) :
    satCvt f x signed w rm =
      if intMax signed w < rm.toIntegral (f.rat x) then (intMax signed w, flagIE)
      else if rm.toIntegral (f.rat x) < intMin signed w then (intMin signed w, flagIE)
      else (rm.toIntegral (f.rat x), if (rm.toIntegral (f.rat x) : ℚ) = f.rat x then 0 else flagPE) := by
  have hchange : (roundToIntegral rm (f.sign x) (f.mag x) (f.scale x)).2 = true ↔
      ¬ (rm.toIntegral (f.rat x) : ℚ) = f.rat x := by
    rw [rm.toIntegral_eq_iff, roundToIntegral_snd, f.rat_eq]
  have hpe : when (roundToIntegral rm (f.sign x) (f.mag x) (f.scale x)).2 flagPE =
      if (rm.toIntegral (f.rat x) : ℚ) = f.rat x then 0 else flagPE := by
    simp only [when, hchange, ite_not]
  simp only [satCvt, hnan, Fmt.value, hinf, Fmt.finite, Bool.false_eq_true, if_false, hpe]
  rw [roundToIntegral_fst, ← f.rat_eq]

/-- Settles O58: by the class of the source, with rounding to an integer read as rounding of the value. -/
theorem satConvertExact : Obligations.SatConvertExact := by
  intro f _ x signed w rm hx _ lo hi
  refine ⟨fun h => satCvt_nan h _ _ _, fun h => satCvt_inf h _ _ _, fun h => ?_⟩
  obtain ⟨hinf, hnan⟩ := (Fmt.isFinite_iff hx).1 h
  exact satCvt_finite hinf hnan signed w rm

end Sys2Proof.Machine
end

section
/-! PROOFS. The values of the patterns of a format in their order: the gap above a pattern, strict growth, and rounding of
the points between the values (spec/40_numerics_helpers.md R133, R135). -/

namespace Sys2Proof.Machine

/-! ## Values in order (R133) -/

/-- The magnitude of a value is that of its significand. -/
theorem Fmt.abs_rat (f : Fmt) (x : ℕ) : |f.rat x| = (f.mag x : ℚ) * (2 : ℚ) ^ f.scale x := by
  have hpos : (0 : ℚ) ≤ (f.mag x : ℚ) * (2 : ℚ) ^ f.scale x := by positivity
  rw [f.rat_eq, abs_mul, abs_of_nonneg hpos]
  cases f.sign x <;> simp

/-- A pattern below the sign bit is positive. -/
theorem Fmt.rat_of_lt {f : Fmt} {k : ℕ} (hk : k < 2 ^ (f.ebits + f.fbits)) :
    f.rat k = (f.mag k : ℚ) * (2 : ℚ) ^ f.scale k := by
  simp [f.rat_eq, Fmt.sign, Nat.testBit_lt_two_pow hk]

theorem Fmt.exp_of_lt {f : Fmt} {k : ℕ} (hk : k < 2 ^ (f.ebits + f.fbits)) : f.exp k = k / 2 ^ f.fbits :=
  Nat.mod_eq_of_lt (Nat.div_lt_of_lt_mul (by rwa [mul_comm, ← pow_add]))

/-- The scale of a larger pattern is not smaller. -/
theorem Fmt.scale_le {f : Fmt} {j k : ℕ} (hjk : j ≤ k) (hk : k < 2 ^ (f.ebits + f.fbits)) : f.scale j ≤ f.scale k := by
  have he : f.exp j ≤ f.exp k := by
    rw [f.exp_of_lt hk, f.exp_of_lt (hjk.trans_lt hk)]
    exact Nat.div_le_div_right hjk
  unfold Fmt.scale
  split <;> split <;> omega

/-- The next pattern is one unit of the last place above, also where its exponent is the next one. -/
theorem Fmt.rat_succ {f : Fmt} {k : ℕ} (hk : k + 1 < 2 ^ (f.ebits + f.fbits)) :
    f.rat (k + 1) = f.rat k + (2 : ℚ) ^ f.scale k := by
  have hlt := Nat.mod_lt k (Nat.two_pow_pos f.fbits)
  have hmod : (k + 1) % 2 ^ f.fbits = (k % 2 ^ f.fbits + 1) % 2 ^ f.fbits := (Nat.mod_add_mod ..).symm
  rw [f.rat_of_lt hk, f.rat_of_lt (Nat.lt_of_succ_lt hk)]
  simp only [Fmt.mag, Fmt.scale, f.exp_of_lt hk, f.exp_of_lt (Nat.lt_of_succ_lt hk), Fmt.frac, Nat.succ_div,
    Nat.dvd_iff_mod_eq_zero, hmod]
  by_cases hlast : k % 2 ^ f.fbits + 1 = 2 ^ f.fbits
  · have hfrac : ((k % 2 ^ f.fbits : ℕ) : ℚ) = 2 ^ f.fbits - 1 := by
      rw [eq_sub_iff_add_eq]
      exact_mod_cast hlast
    simp only [hlast, Nat.mod_self, if_true, Nat.succ_ne_zero, if_false]
    split
    next hzero => simp [hfrac, hzero]; ring
    next =>
      push_cast
      rw [hfrac, add_sub_right_comm, add_sub_right_comm, zpow_add_one₀ two_ne_zero]
      ring
  · rw [Nat.mod_eq_of_lt (by omega), if_neg (Nat.succ_ne_zero _), add_zero]
    split <;> push_cast <;> ring

/-- Larger patterns have larger values. -/
theorem Fmt.rat_strictMonoOn (f : Fmt) : StrictMonoOn f.rat (Set.Iio (2 ^ (f.ebits + f.fbits))) := by
  refine strictMonoOn_of_lt_succ Set.ordConnected_Iio fun k _ _ hk => ?_
  rw [Nat.succ_eq_succ, f.rat_succ hk]
  exact lt_add_of_pos_right _ (by positivity)

theorem Fmt.rat_le_rat {f : Fmt} {j k : ℕ} (hj : j < 2 ^ (f.ebits + f.fbits)) (hk : k < 2 ^ (f.ebits + f.fbits)) :
    f.rat j ≤ f.rat k ↔ j ≤ k := f.rat_strictMonoOn.le_iff_le hj hk

theorem Fmt.rat_lt_rat {f : Fmt} {j k : ℕ} (hj : j < 2 ^ (f.ebits + f.fbits)) (hk : k < 2 ^ (f.ebits + f.fbits)) :
    f.rat j < f.rat k ↔ j < k := f.rat_strictMonoOn.lt_iff_lt hj hk

/-! ## Points between the values (R135) -/

/-- The point at the fraction `a % 2^s / 2^s` of the gap above the pattern `a / 2^s`. -/
def Fmt.interp (f : Fmt) (s a : ℕ) : ℚ :=
  f.rat (a / 2 ^ s) + ((a % 2 ^ s : ℕ) : ℚ) / 2 ^ s * (2 : ℚ) ^ f.scale (a / 2 ^ s)

/-- A significand whose last `s` bits are below the last bit of the pattern `a / 2^s`. -/
theorem Fmt.interp_eq {f : Fmt} {s a m : ℕ} {e : ℤ} (ha : a / 2 ^ s < 2 ^ (f.ebits + f.fbits))
    (hm : m = 2 ^ s * f.mag (a / 2 ^ s) + a % 2 ^ s) (he : e = f.scale (a / 2 ^ s) - s) :
    f.interp s a = (m : ℚ) * (2 : ℚ) ^ e := by
  rw [Fmt.interp, f.rat_of_lt ha, hm, he, zpow_sub₀ two_ne_zero, zpow_natCast]
  push_cast
  field_simp

/-- A distance in units of the gap above the pattern `a / 2^s`, from it and from the next one. -/
theorem Fmt.interp_sub {f : Fmt} {s a r : ℕ} (hr : r = a / 2 ^ s ∨ r = a / 2 ^ s + 1) (hlt : r < 2 ^ (f.ebits + f.fbits)) :
    f.interp s a - f.rat r = ((a : ℚ) / 2 ^ s - r) * (2 : ℚ) ^ f.scale (a / 2 ^ s) := by
  rw [Fmt.interp, div_two_pow_eq a s]
  rcases hr with rfl | rfl
  · ring
  · rw [f.rat_succ hlt]
    push_cast
    ring

theorem div_two_pow_bounds (a s : ℕ) :
    ((a / 2 ^ s : ℕ) : ℚ) ≤ (a : ℚ) / 2 ^ s ∧ (a : ℚ) / 2 ^ s < (a / 2 ^ s : ℕ) + 1 := by
  have hlt := mod_two_pow_div_lt_one a s
  have hpos : (0 : ℚ) ≤ ((a % 2 ^ s : ℕ) : ℚ) / 2 ^ s := by positivity
  rw [div_two_pow_eq a s]
  constructor <;> linarith

/-- Of the two ends of a gap the nearer one is the nearest of all values, and the even one in a tie. -/
theorem nearestEven_of_gap {val : ℕ → ℚ} {n k r : ℕ} {v : ℚ} (hmono : StrictMonoOn val (Set.Iio (n + 1))) (hn : r < n)
    (hlo : val k ≤ v) (hhi : v < val (k + 1))
    (hr : r = k ∧ (v - val k < val (k + 1) - v ∨ v - val k = val (k + 1) - v ∧ r % 2 = 0) ∨
      r = k + 1 ∧ (val (k + 1) - v < v - val k ∨ val (k + 1) - v = v - val k ∧ r % 2 = 0)) :
    NearestEven val n v r := by
  have hle : ∀ {i j}, i ≤ j → j < n + 1 → val i ≤ val j := fun hij hj =>
    hmono.monotoneOn (Set.mem_Iio.2 (by omega)) (Set.mem_Iio.2 hj) hij
  have hlt : ∀ {i j}, i < j → j < n + 1 → val i < val j := fun hij hj =>
    hmono (Set.mem_Iio.2 (by omega)) (Set.mem_Iio.2 hj) hij
  refine ⟨hn, fun c hc => ?_⟩
  suffices h : c = r ∨ |v - val r| < |v - val c| ∨ |v - val r| ≤ |v - val c| ∧ r % 2 = 0 by
    rcases h with rfl | h | ⟨h, heven⟩
    · exact ⟨le_rfl, fun _ => .inl rfl⟩
    · exact ⟨h.le, fun heq => absurd heq h.ne'⟩
    · exact ⟨h, fun _ => .inr heven⟩
  rcases hr with ⟨rfl, hr⟩ | ⟨rfl, hr⟩
  · rw [abs_of_nonneg (sub_nonneg.2 hlo)]
    rcases lt_trichotomy c r with h | h | h
    · exact .inr (.inl ((sub_lt_sub_left (hlt h (by omega)) v).trans_le (le_abs_self _)))
    · exact .inl h
    · have hfar : val (r + 1) - v ≤ |v - val c| := by
        rw [abs_sub_comm]
        exact (sub_le_sub_right (hle h (by omega)) v).trans (le_abs_self _)
      exact .inr (hr.imp (fun hr => hr.trans_le hfar) fun hr => ⟨hr.1.trans_le hfar, hr.2⟩)
  · rw [abs_sub_comm, abs_of_nonneg (sub_nonneg.2 hhi.le)]
    rcases lt_trichotomy c (k + 1) with h | h | h
    · have hfar : v - val k ≤ |v - val c| :=
        (sub_le_sub_left (hle (Nat.le_of_lt_succ h) (by omega)) v).trans (le_abs_self _)
      exact .inr (hr.imp (fun hr => hr.trans_le hfar) fun hr => ⟨hr.1.trans_le hfar, hr.2⟩)
    · exact .inl h
    · refine .inr (.inl ((sub_lt_sub_right (hlt h (by omega)) v).trans_le ?_))
      rw [abs_sub_comm]
      exact le_abs_self _

/-- To nearest even among the patterns is to nearest even of `a / 2^s`. -/
theorem Fmt.nearestEven_interp {f : Fmt} {n s a : ℕ} (hn : n < 2 ^ (f.ebits + f.fbits))
    (hr : roundShift .rne false a s < n) : NearestEven f.rat n (f.interp s a) (roundShift .rne false a s) := by
  have hnear := roundShift_rne_near false a s
  obtain ⟨hlo, hhi⟩ := div_two_pow_bounds a s
  have hU : (0 : ℚ) < 2 ^ f.scale (a / 2 ^ s) := by positivity
  have hcell := roundShift_eq_or .rne false a s
  have hmono : StrictMonoOn f.rat (Set.Iio (n + 1)) := f.rat_strictMonoOn.mono (Set.Iio_subset_Iio hn)
  generalize roundShift .rne false a s = r at *
  have hbelow := interp_sub (f := f) (s := s) (a := a) (.inl rfl) (by omega)
  have habove := interp_sub (f := f) (s := s) (a := a) (.inr rfl) (by omega)
  refine nearestEven_of_gap hmono hr (k := a / 2 ^ s) ?_ ?_ ?_
  · exact sub_nonneg.1 (hbelow ▸ mul_nonneg (by linarith) hU.le)
  · exact sub_neg.1 (habove ▸ mul_neg_of_neg_of_pos (by push_cast; linarith) hU)
  · rw [hbelow, ← neg_sub (f.interp s a), habove, ← neg_mul, mul_lt_mul_iff_left₀ hU, mul_lt_mul_iff_left₀ hU,
      mul_left_inj' hU.ne', mul_left_inj' hU.ne']
    refine hcell.imp (fun h => ⟨h, ?_⟩) fun h => ⟨h, ?_⟩ <;> subst h
    · rw [abs_of_nonneg (by linarith)] at hnear
      push_cast
      exact hnear.imp (fun h => by linarith) fun h => ⟨by linarith, h.2⟩
    · push_cast at hnear ⊢
      rw [abs_of_neg (by linarith)] at hnear
      exact hnear.imp (fun h => by linarith) fun h => ⟨by linarith, h.2⟩

/-- A point moved up by less than a gap lies between the values around the truncated sum. -/
theorem Fmt.interp_add_bracket {f : Fmt} {s a c : ℕ} (hc : c < 2 ^ s) :
    ((a + c) / 2 ^ s < 2 ^ (f.ebits + f.fbits) →
      f.rat ((a + c) / 2 ^ s) ≤ f.interp s a + (c : ℚ) / 2 ^ s * (2 : ℚ) ^ f.scale (a / 2 ^ s)) ∧
    ((a + c) / 2 ^ s + 1 < 2 ^ (f.ebits + f.fbits) →
      f.interp s a + (c : ℚ) / 2 ^ s * (2 : ℚ) ^ f.scale (a / 2 ^ s) < f.rat ((a + c) / 2 ^ s + 1)) := by
  have hU : (0 : ℚ) < 2 ^ f.scale (a / 2 ^ s) := by positivity
  have hmoved : f.interp s a + (c : ℚ) / 2 ^ s * (2 : ℚ) ^ f.scale (a / 2 ^ s) =
      f.rat (a / 2 ^ s) + ((a % 2 ^ s + c : ℕ) : ℚ) / 2 ^ s * (2 : ℚ) ^ f.scale (a / 2 ^ s) := by
    rw [Fmt.interp]
    push_cast
    ring
  have hsum : ((a % 2 ^ s + c : ℕ) : ℚ) / 2 ^ s < 2 := by
    rw [div_lt_iff₀ (by positivity)]
    exact_mod_cast (by linarith [Nat.mod_lt a (Nat.two_pow_pos s)] : a % 2 ^ s + c < 2 * 2 ^ s)
  have hpos : (0 : ℚ) ≤ ((a % 2 ^ s + c : ℕ) : ℚ) / 2 ^ s := by positivity
  rw [hmoved, Nat.add_div (Nat.two_pow_pos s), Nat.div_eq_of_lt hc, Nat.mod_eq_of_lt hc, add_zero]
  split
  next hcarry =>
    have hone : (1 : ℚ) ≤ ((a % 2 ^ s + c : ℕ) : ℚ) / 2 ^ s := by
      rw [one_le_div (by positivity)]
      exact_mod_cast hcarry
    constructor
    · intro hlt
      rw [f.rat_succ hlt]
      exact add_le_add_right (le_mul_of_one_le_left hU.le hone) _
    · intro hlt
      have htwo := mul_lt_mul_of_pos_right hsum hU
      have hscale : (2 : ℚ) ^ f.scale (a / 2 ^ s) ≤ 2 ^ f.scale (a / 2 ^ s + 1) :=
        zpow_le_zpow_right₀ one_le_two (f.scale_le (Nat.le_succ _) (Nat.lt_of_succ_lt hlt))
      rw [f.rat_succ hlt, f.rat_succ (Nat.lt_of_succ_lt hlt)]
      linarith
  next hcarry =>
    have hone : ((a % 2 ^ s + c : ℕ) : ℚ) / 2 ^ s < 1 := by
      rw [div_lt_one (by positivity)]
      exact_mod_cast not_le.1 hcarry
    constructor
    · exact fun _ => le_add_of_nonneg_right (by positivity)
    · intro hlt
      rw [add_zero, f.rat_succ hlt]
      exact add_lt_add_right (mul_lt_of_lt_one_left hU hone) _

end Sys2Proof.Machine
end

section
/-! PROOFS. The converters from FP16 to FP8 as a sign and a rounded magnitude (spec/40_numerics_helpers.md R141 to R146). -/

namespace Sys2Proof.Machine

/-! ## Fields (R130) -/

theorem fp16_exp (x : ℕ) : fp16.exp x = x / 1024 % 32 := rfl
theorem fp16_frac (x : ℕ) : fp16.frac x = x % 1024 := rfl
theorem fp16_mag (x : ℕ) : fp16.mag x = if fp16.exp x = 0 then fp16.frac x else 1024 + fp16.frac x := rfl
theorem fp16_scale (x : ℕ) : fp16.scale x = (if fp16.exp x = 0 then 1 else (fp16.exp x : ℤ)) - 15 - 10 := rfl
theorem bf8_exp (k : ℕ) : bf8.exp k = k / 4 % 32 := rfl
theorem bf8_mag (k : ℕ) : bf8.mag k = if bf8.exp k = 0 then k % 4 else 4 + k % 4 := rfl
theorem bf8_scale (k : ℕ) : bf8.scale k = (if bf8.exp k = 0 then 1 else (bf8.exp k : ℤ)) - 15 - 2 := rfl
theorem hf8_exp (k : ℕ) : hf8.exp k = k / 8 % 16 := rfl
theorem hf8_mag (k : ℕ) : hf8.mag k = if hf8.exp k = 0 then k % 8 else 8 + k % 8 := rfl
theorem hf8_scale (k : ℕ) : hf8.scale k = (if hf8.exp k = 0 then 1 else (hf8.exp k : ℤ)) - 7 - 3 := rfl

/-! ## A sign and a magnitude -/

/-- The pattern of the largest FP8 number; the next one is BF8's infinity or HF8's NaN. -/
def Fp8.greatest (y : Fp8) : ℕ := if y = .bf8 then 0x7B else 0x7E

@[simp] theorem Fp8.greatest_bf8 : Fp8.bf8.greatest = 0x7B := rfl
@[simp] theorem Fp8.greatest_hf8 : Fp8.hf8.greatest = 0x7E := rfl

/-- The magnitude of an infinity and of a number out of range. -/
def Fp8.beyond (y : Fp8) (sat : Bool) : ℕ := if sat then y.greatest else y.greatest + 1

/-- The result with the sign of `x` and the magnitude `m`, which is out of range above the largest number. -/
def Fp8.ofMagnitude (y : Fp8) (x m : ℕ) (sat : Bool) : Fp8Result :=
  if y.greatest < m then ⟨x / 2 ^ 15 * 128 + y.beyond sat, true⟩
  else ⟨x / 2 ^ 15 * 128 + m, false⟩

/-- A finite FP16 value in units of 2^-24. -/
def fp16Units (x : ℕ) : ℕ := fp16.mag x * 2 ^ (fp16.exp x - 1)

/-- The magnitude to nearest even; HF8 exponents are 8 below those of FP16, and FP16 exponents to 8 give denormals. -/
def Fp8.nearMagnitude (y : Fp8) (x : ℕ) : ℕ :=
  match y with
  | .bf8 => roundShift .rne false (x % 2 ^ 15) 8
  | .hf8 => if fp16.exp x ≤ 8 then roundShift .rne false (fp16Units x) 15
            else roundShift .rne false (x % 2 ^ 15 - 2 ^ 13) 7

/-- The HF8 sum of a source with an exponent to 8 and the bias, in units of 2^-24: the bias is aligned to 2^-17 where the sum
with half of it stays below 2^-6. -/
def hf8BiasedUnits (x b : ℕ) : ℕ :=
  if fp16Units x + b / 2 * 2 ^ (fp16.exp x - 1) < 2 ^ 18 then fp16Units x + b * 2 ^ 7
  else fp16Units x + b / 2 * 2 ^ (fp16.exp x - 1)

/-- The magnitude under a bias. -/
def Fp8.biasMagnitude (y : Fp8) (x b : ℕ) : ℕ :=
  match y with
  | .bf8 => (x % 2 ^ 15 + b) / 2 ^ 8
  | .hf8 => if fp16.exp x ≤ 8 then hf8BiasedUnits x b / 2 ^ 15 else (x % 2 ^ 15 - 2 ^ 13 + b / 2) / 2 ^ 7

/-- The finite patterns are those whose exponent field is not all ones. -/
theorem fp16_isFinite_iff {x : ℕ} (hx : x < 2 ^ 16) : fp16.isFinite x = true ↔ x % 2 ^ 15 < 0x7C00 := by
  have h : fp16.isFinite x = true ↔ x < 2 ^ 16 ∧ x / 1024 % 32 ≠ 31 := by
    simp [Fmt.isFinite, fp16_exp, Fmt.expOnes, show fp16.ebits = 5 from rfl, show fp16.fbits = 10 from rfl]
  rw [h]
  omega

/-! ## BF8 (R141, R145) -/

/-- The byte of a sum below the NaNs. -/
theorem bf8OfSum_eq {x t : ℕ} (hx : x < 2 ^ 16) (ht : t < 0x7D00) (sat : Bool) :
    bf8OfSum ((x / 2 ^ 15 * 2 ^ 15 + t) % 2 ^ 16) sat = Fp8.bf8.ofMagnitude x (t / 2 ^ 8) sat := by
  have hsum : (x / 2 ^ 15 * 2 ^ 15 + t) % 2 ^ 16 = x / 2 ^ 15 * 2 ^ 15 + t := Nat.mod_eq_of_lt (by omega)
  have hbyte : (x / 2 ^ 15 * 2 ^ 15 + t) / 256 = x / 2 ^ 15 * 128 + t / 2 ^ 8 := by omega
  have hsign : (x / 2 ^ 15 * 2 ^ 15 + t) / 2 ^ 15 = x / 2 ^ 15 := by omega
  rw [bf8OfSum, Fp8.ofMagnitude, hsum, hbyte, hsign]
  have hover : (x / 2 ^ 15 * 128 + t / 2 ^ 8) % 128 = 0x7C ↔ Fp8.bf8.greatest < t / 2 ^ 8 := by
    rw [Fp8.greatest_bf8]
    omega
  by_cases h : (x / 2 ^ 15 * 128 + t / 2 ^ 8) % 128 = 0x7C
  · have hm : t / 2 ^ 8 = 0x7C := by omega
    rw [if_pos h, if_pos (hover.1 h), hm]
    cases sat <;> rfl
  · rw [if_neg h, if_neg (mt hover.2 h)]

theorem fp16ToBf8_finite {x : ℕ} (hx : x < 2 ^ 16) (h : fp16.isFinite x = true) (sat : Bool) :
    fp16ToBf8 x sat = Fp8.bf8.ofMagnitude x (Fp8.bf8.nearMagnitude x) sat := by
  obtain ⟨hinf, hnan⟩ := (Fmt.isFinite_iff hx).1 h
  rw [fp16_isFinite_iff hx] at h
  have hsum : x + 0x7F + x / 256 % 2 =
      x / 2 ^ 15 * 2 ^ 15 + (x % 2 ^ 15 + (2 ^ 7 - 1) + x % 2 ^ 15 / 2 ^ (7 + 1) % 2) := by omega
  simp only [fp16ToBf8, hinf, hnan, Bool.or_self, Bool.false_eq_true, if_false]
  rw [hsum, bf8OfSum_eq hx (by omega), Fp8.nearMagnitude, roundShift_rne_eq _ _ 7]

theorem fp16ToBf8Bias_finite {x b : ℕ} (hx : x < 2 ^ 16) (hb : b < 2 ^ 8) (h : fp16.isFinite x = true) (sat : Bool) :
    fp16ToBf8Bias x b sat = Fp8.bf8.ofMagnitude x (Fp8.bf8.biasMagnitude x b) sat := by
  obtain ⟨hinf, hnan⟩ := (Fmt.isFinite_iff hx).1 h
  rw [fp16_isFinite_iff hx] at h
  have hsum : x + b = x / 2 ^ 15 * 2 ^ 15 + (x % 2 ^ 15 + b) := by omega
  simp only [fp16ToBf8Bias, hinf, hnan, Bool.or_self, Bool.false_eq_true, if_false]
  rw [hsum, bf8OfSum_eq hx (by omega), Fp8.biasMagnitude]

/-! ## HF8 (R142, R144) -/

/-- A sticky bit makes the quotient odd. -/
theorem or_sticky (a m : ℕ) : a ||| (m % 128 + 0x7F) / 128 = if m % 128 = 0 then a else 2 * (a / 2) + 1 := by
  split
  next h => rw [h, Nat.or_zero]
  next h =>
    have hone : (m % 128 + 0x7F) / 128 = 1 := by omega
    have hmod : (a ||| 1) % 2 = 1 := by simp
    have hdiv : (a ||| 1) / 2 = a / 2 := by simp [Nat.or_div_two]
    rw [hone]
    omega

theorem or_hidden {m : ℕ} (hm : m < 1024) : m ||| 0x400 = m + 1024 := by
  rw [Nat.or_comm, Nat.add_comm]
  exact (Nat.two_pow_add_eq_or_of_lt (i := 10) hm 1).symm

/-- The last sum that is rounded to 7E is the tie between it and 7F. -/
theorem greatest_lt_roundShift_seven_iff (a : ℕ) : Fp8.hf8.greatest < roundShift .rne false a 7 ↔ 0x3F40 < a := by
  rw [roundShift_rne, Fp8.greatest_hf8]
  split <;> omega

/-- The exponent and the fraction cut from a rounded significand. -/
theorem hf8_fields_div (n : ℕ) : n / 1024 * 8 + n / 128 % 8 = n / 128 := by omega

/-- The denormal branch rounds the value to a multiple of 2^-9: the bits that its sticky bit does not see never decide. -/
theorem hf8Underflow_eq {x : ℕ} (he : fp16.exp x ≤ 8) :
    (hf8Underflow (fp16.exp x) (fp16.frac x)).1 * 8 + (hf8Underflow (fp16.exp x) (fp16.frac x)).2 =
      roundShift .rne false (fp16Units x) 15 := by
  have hm : fp16.frac x < 1024 := Nat.mod_lt _ (by norm_num)
  simp only [hf8Underflow, or_sticky, or_hidden hm, hf8_fields_div, fp16Units, fp16_mag]
  refine (roundShift_rne_eq false _ 6).symm.trans ?_
  generalize fp16.frac x = m at *
  generalize fp16.exp x = e at *
  interval_cases e <;>
    simp only [Nat.reducePow, Nat.reduceSub, if_true, if_false, OfNat.ofNat_ne_zero, one_ne_zero] <;>
    refine roundShift_rne_congr false ?_ ?_ ?_ <;> split <;> omega

/-- A finite source with an exponent to 8 is below 2^-6. -/
theorem fp16Units_lt {x : ℕ} (he : fp16.exp x ≤ 8) : fp16Units x < 2 ^ 18 := by
  have hm : fp16.frac x < 1024 := Nat.mod_lt _ (by norm_num)
  simp only [fp16Units, fp16_mag]
  generalize fp16.frac x = m at *
  generalize fp16.exp x = e at *
  interval_cases e <;> simp <;> omega

theorem hf8Byte_eq {x e m k : ℕ} (h : e * 8 + m = k) : hf8Byte x e m = x / 2 ^ 15 * 128 + k := by
  rw [hf8Byte, Nat.add_assoc, h]

theorem hf8Over_eq (x : ℕ) (sat : Bool) :
    hf8Over x sat = x / 2 ^ 15 * 128 + Fp8.hf8.beyond sat := by
  cases sat <;> exact hf8Byte_eq rfl

theorem Fp8.ofMagnitude_of_gt {y : Fp8} {m : ℕ} (h : y.greatest < m) (x : ℕ) (sat : Bool) :
    y.ofMagnitude x m sat = ⟨x / 2 ^ 15 * 128 + y.beyond sat, true⟩ := if_pos h

theorem Fp8.ofMagnitude_of_le {y : Fp8} {m : ℕ} (h : m ≤ y.greatest) (x : ℕ) (sat : Bool) :
    y.ofMagnitude x m sat = ⟨x / 2 ^ 15 * 128 + m, false⟩ := if_neg (not_lt.2 h)

/-- The fields of a sum with an exponent above 8, less 2^13 from the change of the exponent's bias. -/
theorem hf8_fields_of_sum {σ t : ℕ} (hlo : 2 ^ 10 ≤ t) (hhi : t < 0x6000) :
    (fp16.exp (σ * 2 ^ 15 + (2 ^ 13 + t)) - 8) * 8 + fp16.frac (σ * 2 ^ 15 + (2 ^ 13 + t)) / 128 = t / 2 ^ 7 := by
  rw [fp16_exp, fp16_frac]
  omega

/-- An exponent to 8: a multiple of 2^-9, always in range. -/
theorem fp16ToHf8_low {x : ℕ} (hx : x < 2 ^ 16) (h : fp16.isFinite x = true) (he : fp16.exp x ≤ 8) (sat : Bool) :
    fp16ToHf8 x sat = Fp8.hf8.ofMagnitude x (Fp8.hf8.nearMagnitude x) sat := by
  obtain ⟨hinf, hnan⟩ := (Fmt.isFinite_iff hx).1 h
  simp only [fp16ToHf8, hinf, hnan, Bool.false_eq_true, if_false, Fp8.nearMagnitude]
  have hle : roundShift .rne false (fp16Units x) 15 ≤ Fp8.hf8.greatest := by
    have hlt := fp16Units_lt he
    have hcell := roundShift_eq_or .rne false (fp16Units x) 15
    rw [Fp8.greatest_hf8]
    omega
  rw [if_neg (by omega), if_pos he, if_pos he, hf8Byte_eq (hf8Underflow_eq he), Fp8.ofMagnitude_of_le hle]
  split
  next hzero => simp [fp16Units, fp16_mag, hzero, roundShift_rne, hf8Byte]
  next => rfl

/-- An exponent above 8: the pattern is rounded. -/
theorem fp16ToHf8_high {x : ℕ} (hx : x < 2 ^ 16) (h : fp16.isFinite x = true) (he : ¬ fp16.exp x ≤ 8) (sat : Bool) :
    fp16ToHf8 x sat = Fp8.hf8.ofMagnitude x (Fp8.hf8.nearMagnitude x) sat := by
  obtain ⟨hinf, hnan⟩ := (Fmt.isFinite_iff hx).1 h
  rw [fp16_isFinite_iff hx] at h
  simp only [fp16ToHf8, hinf, hnan, Bool.false_eq_true, if_false, Fp8.nearMagnitude]
  rw [fp16_exp] at he
  have hlo : 9 * 2 ^ 10 ≤ x % 2 ^ 15 := by omega
  have hover : 23 < fp16.exp x ∨ fp16.exp x = 23 ∧ 0x340 < fp16.frac x ↔
      Fp8.hf8.greatest < roundShift .rne false (x % 2 ^ 15 - 2 ^ 13) 7 := by
    rw [greatest_lt_roundShift_seven_iff, fp16_exp, fp16_frac]
    omega
  have hsum : x + 0x3F + fp16.frac x / 128 % 2 = x / 2 ^ 15 * 2 ^ 15 +
      (2 ^ 13 + (x % 2 ^ 15 - 2 ^ 13 + (2 ^ 6 - 1) + (x % 2 ^ 15 - 2 ^ 13) / 2 ^ (6 + 1) % 2)) := by
    rw [fp16_frac]
    omega
  simp only [hover, hsum]
  rw [fp16_exp, if_neg (c := _ ∧ _) (by omega), if_neg he, if_neg he]
  generalize x % 2 ^ 15 = p at *
  split
  next h => rw [Fp8.ofMagnitude_of_gt h, hf8Over_eq]
  next h =>
    rw [Fp8.ofMagnitude_of_le (not_lt.1 h), roundShift_rne_eq _ _ 6]
    rw [greatest_lt_roundShift_seven_iff] at h
    rw [hf8Byte_eq (hf8_fields_of_sum (by omega) (by omega))]

theorem hf8_half_bias_le {x b : ℕ} (he : fp16.exp x ≤ 8) (hb : b < 2 ^ 8) :
    b / 2 * 2 ^ (fp16.exp x - 1) ≤ 127 * 2 ^ 7 :=
  Nat.mul_le_mul (by omega) (Nat.pow_le_pow_right (by norm_num) (by omega))

theorem hf8BiasedUnits_lt {x b : ℕ} (he : fp16.exp x ≤ 8) (hb : b < 2 ^ 8) : hf8BiasedUnits x b < 2 ^ 19 := by
  have hlt := fp16Units_lt he
  have hbias := hf8_half_bias_le he hb
  rw [hf8BiasedUnits]
  split <;> omega

/-- The sum with half the bias stays below 2^-6 where its exponent stays at 8 or below. -/
theorem hf8_aligned_lt_iff {x b : ℕ} (he : fp16.exp x ≤ 8) (hb : b < 2 ^ 8) :
    fp16Units x + b / 2 * 2 ^ (fp16.exp x - 1) < 2 ^ 18 ↔ fp16.exp (x + b / 2) ≤ 8 := by
  have hm : fp16.frac x < 1024 := Nat.mod_lt _ (by norm_num)
  have hcarry : fp16.exp (x + b / 2) ≤ 8 ↔ fp16.exp x < 8 ∨ fp16.frac x + b / 2 < 1024 := by
    rw [fp16_exp] at he
    rw [fp16_exp, fp16_exp, fp16_frac]
    omega
  rw [hcarry, fp16Units, fp16_mag]
  generalize fp16.frac x = m at *
  generalize fp16.exp x = e at *
  interval_cases e <;> simp <;> omega

/-- Under a bias an exponent to 8 gives a multiple of 2^-9, or the number 2^-6 where the sum carries to it. -/
theorem hf8BiasedUnits_div {x b : ℕ} (he : fp16.exp x ≤ 8) (hb : b < 2 ^ 8) :
    hf8BiasedUnits x b / 2 ^ 15 =
      if fp16.exp (x + b / 2) ≤ 8 then
        if fp16.exp x = 0 then (fp16.frac x + b * 128) / 2 ^ 15
        else (1024 + fp16.frac x + b * 2 ^ (8 - fp16.exp x)) / 2 ^ (9 - fp16.exp x) / 128
      else 8 := by
  simp only [hf8BiasedUnits, hf8_aligned_lt_iff he hb]
  have hm : fp16.frac x < 1024 := Nat.mod_lt _ (by norm_num)
  by_cases hcarry : fp16.exp (x + b / 2) ≤ 8
  · rw [if_pos hcarry, if_pos hcarry, fp16Units, fp16_mag]
    generalize fp16.frac x = m at *
    generalize fp16.exp x = e at *
    interval_cases e <;> simp <;> omega
  · have hunits := (hf8_aligned_lt_iff he hb).not.2 hcarry
    have hlt := fp16Units_lt he
    have hbias := hf8_half_bias_le he hb
    rw [if_neg hcarry, if_neg hcarry]
    omega

/-- An exponent to 8: a multiple of 2^-9, always in range. -/
theorem fp16ToHf8Bias_low {x b : ℕ} (hx : x < 2 ^ 16) (hb : b < 2 ^ 8) (h : fp16.isFinite x = true)
    (he : fp16.exp x ≤ 8) (sat : Bool) :
    fp16ToHf8Bias x b sat = Fp8.hf8.ofMagnitude x (Fp8.hf8.biasMagnitude x b) sat := by
  obtain ⟨hinf, hnan⟩ := (Fmt.isFinite_iff hx).1 h
  rw [fp16_isFinite_iff hx] at h
  simp only [fp16ToHf8Bias, hinf, hnan, Bool.false_eq_true, if_false, Fp8.biasMagnitude]
  have hm : fp16.frac x < 1024 := Nat.mod_lt _ (by norm_num)
  have hsmall : ¬ (23 < fp16.exp (x + b / 2) ∨ fp16.exp (x + b / 2) = 23 ∧ 0x380 ≤ fp16.frac (x + b / 2)) := by
    simp only [fp16_exp, fp16_frac] at *
    omega
  have hdiv := hf8BiasedUnits_div he hb
  have hle : hf8BiasedUnits x b / 2 ^ 15 ≤ Fp8.hf8.greatest := by
    have hlt := hf8BiasedUnits_lt he hb
    rw [Fp8.greatest_hf8]
    omega
  rw [if_neg hsmall, if_pos he, Fp8.ofMagnitude_of_le hle, hdiv, or_hidden hm, Nat.add_comm _ 1024]
  by_cases hzero : fp16.exp x = 0
  · have hstays : fp16.exp (x + b / 2) ≤ 8 := by
      rw [fp16_exp] at hzero ⊢
      omega
    rw [if_pos hzero, if_pos hstays, if_pos hzero, hf8Byte_eq (Nat.zero_add _)]
  · rw [if_neg hzero, if_neg hzero]
    by_cases hstays : fp16.exp (x + b / 2) ≤ 8
    · rw [if_pos hstays, if_pos hstays, hf8Byte_eq (hf8_fields_div _)]
    · have hcarry : (fp16.exp (x + b / 2) - 8) * 8 + fp16.frac (x + b / 2) / 128 = 8 := by
        simp only [fp16_exp, fp16_frac] at *
        omega
      rw [if_neg hstays, if_neg hstays, hf8Byte_eq hcarry]

/-- An exponent above 8: half the bias is added to the pattern. -/
theorem fp16ToHf8Bias_high {x b : ℕ} (hx : x < 2 ^ 16) (hb : b < 2 ^ 8) (h : fp16.isFinite x = true)
    (he : ¬ fp16.exp x ≤ 8) (sat : Bool) :
    fp16ToHf8Bias x b sat = Fp8.hf8.ofMagnitude x (Fp8.hf8.biasMagnitude x b) sat := by
  obtain ⟨hinf, hnan⟩ := (Fmt.isFinite_iff hx).1 h
  rw [fp16_isFinite_iff hx] at h
  simp only [fp16ToHf8Bias, hinf, hnan, Bool.false_eq_true, if_false, Fp8.biasMagnitude]
  have hlo : 9 * 2 ^ 10 ≤ x % 2 ^ 15 := by
    rw [fp16_exp] at he
    omega
  have hsum : x + b / 2 = x / 2 ^ 15 * 2 ^ 15 + (2 ^ 13 + (x % 2 ^ 15 - 2 ^ 13 + b / 2)) := by omega
  have hover : 23 < fp16.exp (x + b / 2) ∨ fp16.exp (x + b / 2) = 23 ∧ 0x380 ≤ fp16.frac (x + b / 2) ↔
      Fp8.hf8.greatest < (x % 2 ^ 15 - 2 ^ 13 + b / 2) / 2 ^ 7 := by
    rw [Fp8.greatest_hf8, fp16_exp, fp16_frac]
    omega
  have he' : ¬ fp16.exp (x + b / 2) ≤ 8 := by
    rw [fp16_exp]
    omega
  simp only [hover]
  rw [if_neg he, if_neg (c := fp16.exp x = 0) (by omega), if_neg he', hsum]
  split
  next h => rw [Fp8.ofMagnitude_of_gt h, hf8Over_eq]
  next h =>
    rw [Fp8.greatest_hf8] at h
    rw [Fp8.ofMagnitude_of_le (by rw [Fp8.greatest_hf8]; omega), hf8Byte_eq (hf8_fields_of_sum (by omega) (by omega))]

/-! ## Every source -/

theorem fp16ToFp8_finite {x : ℕ} (hx : x < 2 ^ 16) (h : fp16.isFinite x = true) (y : Fp8) (sat : Bool) :
    fp16ToFp8 x y sat = y.ofMagnitude x (y.nearMagnitude x) sat := by
  cases y with
  | bf8 => exact fp16ToBf8_finite hx h sat
  | hf8 =>
    by_cases he : fp16.exp x ≤ 8
    · exact fp16ToHf8_low hx h he sat
    · exact fp16ToHf8_high hx h he sat

theorem fp16ToFp8Bias_finite {x b : ℕ} (hx : x < 2 ^ 16) (hb : b < 2 ^ 8) (h : fp16.isFinite x = true) (y : Fp8)
    (sat : Bool) : fp16ToFp8Bias x b y sat = y.ofMagnitude x (y.biasMagnitude x b) sat := by
  cases y with
  | bf8 => exact fp16ToBf8Bias_finite hx hb h sat
  | hf8 =>
    by_cases he : fp16.exp x ≤ 8
    · exact fp16ToHf8Bias_low hx hb h he sat
    · exact fp16ToHf8Bias_high hx hb h he sat

/-- A bias does not change what an infinity or a NaN becomes. -/
theorem fp16ToFp8Bias_special {x : ℕ} (h : fp16.isInf x = true ∨ fp16.isNaN x = true) (b : ℕ) (y : Fp8) (sat : Bool) :
    fp16ToFp8Bias x b y sat = fp16ToFp8 x y sat := by
  cases y <;> rcases h with h | h <;>
    simp [fp16ToFp8Bias, fp16ToFp8, fp16ToBf8Bias, fp16ToBf8, fp16ToHf8Bias, fp16ToHf8, h]

theorem fp16ToFp8_nan {x : ℕ} (h : fp16.isNaN x = true) (y : Fp8) (sat : Bool) :
    fp16ToFp8 x y sat = ⟨x / 2 ^ 15 * 128 + (if y = .bf8 then x / 2 ^ 8 % 128 ||| 2 else 0x7F), false⟩ := by
  have hinf : fp16.isInf x = false := Bool.eq_false_iff.2 fun hinf => by simp [Fmt.isNaN_eq_false_of_isInf hinf] at h
  cases y with
  | bf8 =>
    have hbyte : x / 256 ||| 2 = x / 2 ^ 15 * 128 + (x / 2 ^ 8 % 128 ||| 2) := by
      have hlt : x / 2 ^ 8 % 128 < 2 ^ 7 := Nat.mod_lt _ (by norm_num)
      have hquiet : x / 2 ^ 8 % 128 ||| 2 < 2 ^ 7 := Nat.or_lt_two_pow hlt (by norm_num)
      calc x / 256 ||| 2 = (2 ^ 7 * (x / 2 ^ 15) + x / 2 ^ 8 % 128) ||| 2 := by
            congr 1
            omega
        _ = 2 ^ 7 * (x / 2 ^ 15) + (x / 2 ^ 8 % 128 ||| 2) := by
            rw [Nat.two_pow_add_eq_or_of_lt hlt, Nat.or_assoc, Nat.two_pow_add_eq_or_of_lt hquiet]
        _ = x / 2 ^ 15 * 128 + (x / 2 ^ 8 % 128 ||| 2) := by omega
    simp [fp16ToFp8, fp16ToBf8, bf8Special, h, hinf, hbyte]
  | hf8 =>
    simp only [fp16ToFp8, fp16ToHf8, h, hinf]
    rfl

theorem fp16ToFp8_inf {x : ℕ} (h : fp16.isInf x = true) (y : Fp8) (sat : Bool) :
    fp16ToFp8 x y sat = ⟨x / 2 ^ 15 * 128 + y.beyond sat, false⟩ := by
  cases y with
  | bf8 =>
    have hbyte : x / 256 = x / 2 ^ 15 * 128 + 0x7C := by
      simp only [Fmt.isInf, fp16_exp, fp16_frac, Bool.and_eq_true, beq_iff_eq, show fp16.expOnes = 31 from rfl] at h
      omega
    cases sat <;> simp [fp16ToFp8, fp16ToBf8, bf8Special, h, Fp8.beyond, hbyte]
  | hf8 => simp [fp16ToFp8, fp16ToHf8, h, hf8Over_eq]

/-- What a convert can answer: by the class of the source, and of a finite one by a magnitude. -/
theorem Fp8Result.cases_of_convert {x b : ℕ} {y : Fp8} {sat : Bool} {r : Fp8Result} (hx : x < 2 ^ 16) (hb : b < 2 ^ 8)
    (hr : r = fp16ToFp8 x y sat ∨ r = fp16ToFp8Bias x b y sat) :
    (fp16.isNaN x = true ∧ fp16.isInf x = false ∧
      r = ⟨x / 2 ^ 15 * 128 + (if y = .bf8 then x / 2 ^ 8 % 128 ||| 2 else 0x7F), false⟩) ∨
    (fp16.isNaN x = false ∧ fp16.isInf x = true ∧ r = ⟨x / 2 ^ 15 * 128 + y.beyond sat, false⟩) ∨
    (fp16.isNaN x = false ∧ fp16.isInf x = false ∧ ∃ m, r = y.ofMagnitude x m sat) := by
  cases hinf : fp16.isInf x <;> cases hnan : fp16.isNaN x
  · have hfin : fp16.isFinite x = true := (Fmt.isFinite_iff hx).2 ⟨hinf, hnan⟩
    rw [fp16ToFp8_finite hx hfin, fp16ToFp8Bias_finite hx hb hfin] at hr
    exact .inr (.inr ⟨rfl, rfl, hr.elim (fun h => ⟨_, h⟩) fun h => ⟨_, h⟩⟩)
  · rw [fp16ToFp8Bias_special (.inr hnan), or_self] at hr
    exact .inl ⟨rfl, rfl, hr.trans (fp16ToFp8_nan hnan y sat)⟩
  · rw [fp16ToFp8Bias_special (.inl hinf), or_self] at hr
    exact .inr (.inl ⟨rfl, rfl, hr.trans (fp16ToFp8_inf hinf y sat)⟩)
  · simp [Fmt.isNaN_eq_false_of_isInf hinf] at hnan

end Sys2Proof.Machine
end

section
/-! PROOFS. The converters from FP16 to FP8: flags, and the magnitude as the rounded value (spec/40_numerics_helpers.md R141
to R146, spec/44_convert_fp8.md R281). -/

namespace Sys2Proof.Machine

/-! ## Sign, NaN, infinity and saturation -/

theorem Fp8.beyond_lt (y : Fp8) (sat : Bool) : y.beyond sat < 128 := by cases y <;> cases sat <;> decide

theorem Fp8.greatest_lt (y : Fp8) : y.greatest < 127 := by cases y <;> decide

/-- The byte of a magnitude in range or of the one that stands for all others. -/
theorem Fp8.ofMagnitude_byte (y : Fp8) (x m : ℕ) (sat : Bool) :
    (y.ofMagnitude x m sat).byte = x / 2 ^ 15 * 128 + if y.greatest < m then y.beyond sat else m := by
  unfold Fp8.ofMagnitude
  split <;> rfl

theorem Fp8.ofMagnitude_overflow (y : Fp8) (x m : ℕ) (sat : Bool) :
    (y.ofMagnitude x m sat).overflow = true ↔ y.greatest < m := by
  unfold Fp8.ofMagnitude
  split <;> simp [*]

section
variable {x b : ℕ} {y : Fp8} {sat : Bool} {r : Fp8Result}

/-- Every byte keeps the sign; a NaN, an infinity and a number out of range become the byte that stands for them, and nothing
else exceeds the largest number. -/
theorem Fp8Result.byte_of_convert (hx : x < 2 ^ 16) (hb : b < 2 ^ 8)
    (hr : r = fp16ToFp8 x y sat ∨ r = fp16ToFp8Bias x b y sat) :
    r.byte / 128 = x / 2 ^ 15 ∧
    (fp16.isNaN x = true → r.byte % 128 = if y = .bf8 then x / 2 ^ 8 % 128 ||| 2 else 0x7F) ∧
    (fp16.isInf x = true ∨ fp16.isFinite x = true ∧ r.overflow = true → r.byte % 128 = y.beyond sat) ∧
    (fp16.isNaN x = false → sat = true → r.byte % 128 ≤ y.greatest) := by
  have hbeyond := y.beyond_lt sat
  have hsplit : ∀ {σ m}, m < 128 → (σ * 128 + m) / 128 = σ ∧ (σ * 128 + m) % 128 = m := by omega
  have hgreatest : sat = true → y.beyond sat = y.greatest := fun h => if_pos h
  obtain ⟨hnan, hinf, rfl⟩ | ⟨hnan, hinf, rfl⟩ | ⟨hnan, hinf, m, rfl⟩ := Fp8Result.cases_of_convert hx hb hr
  · have hlt : (if y = .bf8 then x / 2 ^ 8 % 128 ||| 2 else 0x7F) < 128 := by
      split
      · exact Nat.or_lt_two_pow (n := 7) (Nat.mod_lt _ (by norm_num)) (by norm_num)
      · norm_num
    obtain ⟨hσ, hm⟩ := hsplit (σ := x / 2 ^ 15) hlt
    exact ⟨hσ, fun _ => hm, by simp [hinf], by simp [hnan]⟩
  · obtain ⟨hσ, hm⟩ := hsplit (σ := x / 2 ^ 15) hbeyond
    exact ⟨hσ, by simp [hnan], fun _ => hm, fun _ h => (hm.trans (hgreatest h)).le⟩
  · have hlt : (if y.greatest < m then y.beyond sat else m) < 128 := by
      have := y.greatest_lt
      split <;> omega
    obtain ⟨hσ, hm⟩ := hsplit (σ := x / 2 ^ 15) hlt
    rw [Fp8.ofMagnitude_byte, Fp8.ofMagnitude_overflow, hm]
    refine ⟨hσ, by simp [hnan], fun h => if_pos (h.resolve_left (by simp [hinf])).2, fun _ h => ?_⟩
    split
    · exact (hgreatest h).le
    · omega
end

/-! ## Flags (R281) -/

/-- The comparison of two magnitudes by their scales is that of the values. -/
theorem sameMagnitude_iff (m1 : ℕ) (e1 : ℤ) (m2 : ℕ) (e2 : ℤ) :
    sameMagnitude m1 e1 m2 e2 = true ↔ (m1 : ℚ) * (2 : ℚ) ^ e1 = m2 * (2 : ℚ) ^ e2 := by
  have hshift : ∀ {a b : ℤ}, a ≤ b → (2 : ℚ) ^ b = (2 : ℚ) ^ (b - a).toNat * (2 : ℚ) ^ a := fun {a b} h => by
    rw [← zpow_natCast, Int.toNat_of_nonneg (sub_nonneg.2 h), ← zpow_add₀ two_ne_zero, sub_add_cancel]
  have hpos : ∀ e : ℤ, (2 : ℚ) ^ e ≠ 0 := fun e => by positivity
  unfold sameMagnitude
  split
  next h =>
    rw [beq_iff_eq, hshift h, ← mul_assoc, mul_left_inj' (hpos e1)]
    exact_mod_cast Iff.rfl
  next h =>
    rw [beq_iff_eq, hshift (le_of_not_ge h), ← mul_assoc, mul_left_inj' (hpos e2)]
    exact_mod_cast Iff.rfl

/-- With equal signs the magnitudes are equal where the values are. -/
theorem fp8Exact_iff {y : Fp8} {x byte : ℕ} (hsign : byte / 128 = x / 2 ^ 15) :
    fp8Exact y x byte = true ↔ y.fmt.rat byte = fp16.rat x := by
  have hs : y.fmt.sign byte = fp16.sign x := by
    have h7 : y.fmt.sign byte = byte.testBit 7 := by cases y <;> rfl
    have h15 : fp16.sign x = x.testBit 15 := rfl
    rw [h7, h15, Nat.testBit_eq_decide_div_mod_eq, Nat.testBit_eq_decide_div_mod_eq, ← hsign]
  have hne : (if fp16.sign x then -1 else 1 : ℚ) ≠ 0 := by split <;> norm_num
  rw [fp8Exact, sameMagnitude_iff, Fmt.rat_eq, Fmt.rat_eq, hs, mul_right_inj' hne, eq_comm]

theorem fp8Flags_eq {y : Fp8} {x : ℕ} {r : Fp8Result} (hsign : r.byte / 128 = x / 2 ^ 15) :
    fp8Flags y x r =
      if fp16.isSNaN x then 1 else if fp16.isNaN x || fp16.isInf x then 0
      else (if fp16.isDenormal x then 2 else 0) |||
        (if r.overflow then 0x28 else if y.fmt.rat r.byte = fp16.rat x then 0
          else if y.fmt.exp r.byte = 0 then 0x30 else 0x20) := by
  simp only [fp8Flags, when, fp8Exact_iff hsign, beq_iff_eq]
  split
  · rfl
  split
  · rfl
  split
  · rw [BitVec.or_assoc]
    rfl
  split
  · exact BitVec.or_zero.symm
  · rw [BitVec.or_assoc]
    by_cases hzero : y.fmt.exp r.byte = 0
    · rw [if_pos hzero, if_pos hzero]
      rfl
    · rw [if_neg hzero, if_neg hzero]
      rfl

/-! ## The source among the FP8 values (R133) -/

/-- The magnitude of a value is the value without the sign bit. -/
theorem fp16_abs_rat (x : ℕ) : |fp16.rat x| = fp16.rat (x % 2 ^ 15) := by
  have hexp : fp16.exp (x % 2 ^ 15) = fp16.exp x := by
    rw [fp16_exp, fp16_exp]
    omega
  have hfrac : fp16.frac (x % 2 ^ 15) = fp16.frac x := by
    rw [fp16_frac, fp16_frac]
    omega
  have hlt : x % 2 ^ 15 < 2 ^ (fp16.ebits + fp16.fbits) := Nat.mod_lt _ (by norm_num)
  rw [Fmt.abs_rat, Fmt.rat_of_lt hlt, Fmt.mag, Fmt.mag, Fmt.scale, Fmt.scale, hexp, hfrac]

/-- BF8 has the exponents of FP16. -/
theorem bf8_exp_eq (x : ℕ) : bf8.exp (x % 2 ^ 15 / 2 ^ 8) = fp16.exp x := by
  rw [fp16_exp, bf8_exp]
  omega

theorem fp16_scale_eq_bf8 (x : ℕ) : fp16.scale x = bf8.scale (x % 2 ^ 15 / 2 ^ 8) - (8 : ℕ) := by
  rw [fp16_scale, bf8_scale, bf8_exp_eq]
  omega

theorem fp16_abs_rat_eq_bf8 (x : ℕ) : |fp16.rat x| = bf8.interp 8 (x % 2 ^ 15) := by
  have hlt : x % 2 ^ 15 < 2 ^ 15 := Nat.mod_lt _ (by norm_num)
  refine (fp16.abs_rat x).trans (Fmt.interp_eq (Nat.div_lt_of_lt_mul hlt) ?_ (fp16_scale_eq_bf8 x)).symm
  rw [fp16_mag, bf8_mag, bf8_exp_eq, fp16_frac]
  split <;> omega

/-- HF8 exponents are 8 below those of FP16. -/
theorem hf8_exp_eq {x : ℕ} (he : 8 < fp16.exp x) (hlt : x % 2 ^ 15 < 3 * 2 ^ 13) :
    hf8.exp ((x % 2 ^ 15 - 2 ^ 13) / 2 ^ 7) = fp16.exp x - 8 := by
  rw [fp16_exp] at *
  rw [hf8_exp]
  omega

theorem fp16_scale_eq_hf8 {x : ℕ} (he : 8 < fp16.exp x) (hlt : x % 2 ^ 15 < 3 * 2 ^ 13) :
    fp16.scale x = hf8.scale ((x % 2 ^ 15 - 2 ^ 13) / 2 ^ 7) - (7 : ℕ) := by
  rw [fp16_scale, hf8_scale, hf8_exp_eq he hlt, if_neg (by omega), if_neg (by omega)]
  omega

theorem fp16_abs_rat_eq_hf8 {x : ℕ} (he : 8 < fp16.exp x) (hlt : x % 2 ^ 15 < 3 * 2 ^ 13) :
    |fp16.rat x| = hf8.interp 7 (x % 2 ^ 15 - 2 ^ 13) := by
  have hk : (x % 2 ^ 15 - 2 ^ 13) / 2 ^ 7 < 2 ^ (hf8.ebits + hf8.fbits) :=
    Nat.div_lt_of_lt_mul (by simp [hf8]; omega)
  refine (fp16.abs_rat x).trans (Fmt.interp_eq hk ?_ (fp16_scale_eq_hf8 he hlt)).symm
  rw [fp16_mag, hf8_mag, hf8_exp_eq he hlt, if_neg (by omega), if_neg (by omega), fp16_frac]
  rw [fp16_exp] at he
  omega

/-- A source in units of 2^-24. -/
theorem fp16_scale_eq (x : ℕ) : fp16.scale x = ((fp16.exp x - 1 : ℕ) : ℤ) + (-24 : ℤ) := by
  rw [fp16_scale]
  split <;> omega

theorem fp16_abs_rat_eq_units (x : ℕ) : |fp16.rat x| = (fp16Units x : ℚ) * (2 : ℚ) ^ (-24 : ℤ) := by
  rw [Fmt.abs_rat, fp16_scale_eq, zpow_add₀ two_ne_zero, zpow_natCast, fp16Units]
  push_cast
  ring

/-- To the 16th pattern the HF8 values are the multiples of 2^-9. -/
theorem hf8_interp_fifteen {u : ℕ} (hu : u < 2 ^ 19) : hf8.interp 15 u = (u : ℚ) * (2 : ℚ) ^ (-24 : ℤ) := by
  have hk : u / 2 ^ 15 < 16 := by omega
  have hexp : hf8.exp (u / 2 ^ 15) = if u / 2 ^ 15 < 8 then 0 else 1 := by
    rw [hf8_exp]
    split <;> omega
  have hmag : hf8.mag (u / 2 ^ 15) = u / 2 ^ 15 := by
    rw [hf8_mag, hexp]
    split <;> simp <;> omega
  have hscale : hf8.scale (u / 2 ^ 15) = -9 := by
    rw [hf8_scale, hexp]
    split <;> simp
  refine Fmt.interp_eq (hk.trans (by decide)) ?_ (by rw [hscale]; rfl)
  rw [hmag]
  exact (Nat.div_add_mod u _).symm

/-! ## To nearest even (R141, R142) -/

theorem Fp8.width (y : Fp8) : 2 ^ (y.fmt.ebits + y.fmt.fbits) = 128 := by cases y <;> rfl

/-- The magnitude of the nearest-even convert is the nearest of the values in range. -/
theorem Fp8.nearestEven_nearMagnitude {y : Fp8} {x : ℕ} (hm : y.nearMagnitude x ≤ y.greatest) :
    NearestEven y.fmt.rat (y.greatest + 1) |fp16.rat x| (y.nearMagnitude x) := by
  have hn : y.greatest + 1 < 2 ^ (y.fmt.ebits + y.fmt.fbits) := by
    have := y.greatest_lt
    rw [y.width]
    omega
  cases y with
  | bf8 =>
    rw [fp16_abs_rat_eq_bf8]
    exact Fmt.nearestEven_interp hn (Nat.lt_succ_of_le hm)
  | hf8 =>
    unfold Fp8.nearMagnitude at *
    dsimp only at *
    split
    next he =>
      rw [if_pos he] at hm
      have hunits := fp16Units_lt he
      rw [fp16_abs_rat_eq_units, ← hf8_interp_fifteen (by omega)]
      exact Fmt.nearestEven_interp hn (Nat.lt_succ_of_le hm)
    next he =>
      rw [if_neg he] at hm
      have hle := mt (greatest_lt_roundShift_seven_iff _).2 (not_lt.2 hm)
      rw [fp16_abs_rat_eq_hf8 (by omega) (by omega)]
      exact Fmt.nearestEven_interp hn (Nat.lt_succ_of_le hm)

/-- Out of range from the tie above the largest number: BF8 rounds it away, HF8 to its even largest number. -/
theorem Fp8.greatest_lt_nearMagnitude_iff (y : Fp8) (x : ℕ) :
    y.greatest < y.nearMagnitude x ↔ if y = .bf8 then 61440 ≤ |fp16.rat x| else 464 < |fp16.rat x| := by
  have hlt : x % 2 ^ 15 < 2 ^ (fp16.ebits + fp16.fbits) := Nat.mod_lt _ (by norm_num)
  rw [fp16_abs_rat]
  cases y with
  | bf8 =>
    have htie : fp16.rat 0x7B80 = 61440 := by decide +kernel
    rw [if_pos rfl, ← htie, Fmt.rat_le_rat (by decide) hlt, Fp8.nearMagnitude, roundShift_rne, Fp8.greatest_bf8]
    split <;> omega
  | hf8 =>
    have htie : fp16.rat 0x5F40 = 464 := by decide +kernel
    rw [if_neg (by decide), ← htie, Fmt.rat_lt_rat (by decide) hlt, Fp8.nearMagnitude]
    split
    next he =>
      have hunits := fp16Units_lt he
      have hcell := roundShift_eq_or .rne false (fp16Units x) 15
      rw [fp16_exp] at he
      rw [Fp8.greatest_hf8]
      omega
    next he =>
      rw [greatest_lt_roundShift_seven_iff]
      omega

/-! ## Under a bias (R144, R145) -/

/-- The sum of the magnitude and the bias: BF8 aligns the bias with the last bits of the source, HF8 half of it, and all of
it with 2^-17 where that sum stays below 2^-6. -/
def Fp8.biasedSum (y : Fp8) (x b : ℕ) : ℚ :=
  let v := |fp16.rat x|
  let ulp : ℚ := (2 : ℚ) ^ fp16.scale x
  let aligned : ℚ := v + ((b / 2 : Nat) : ℚ) * ulp
  if y = .bf8 then v + (b : ℚ) * ulp else if aligned < 1 / 64 then v + (b : ℚ) / 2 ^ 17 else aligned

theorem biasedSum_bf8 (x b : ℕ) : Fp8.bf8.biasedSum x b =
    bf8.interp 8 (x % 2 ^ 15) + (b : ℚ) / 2 ^ 8 * (2 : ℚ) ^ bf8.scale (x % 2 ^ 15 / 2 ^ 8) := by
  rw [Fp8.biasedSum, if_pos rfl, fp16_abs_rat_eq_bf8, fp16_scale_eq_bf8, zpow_sub₀ two_ne_zero, zpow_natCast]
  ring

/-- An exponent to 8: the sum in units of 2^-24. -/
theorem biasedSum_hf8_low {x b : ℕ} (he : fp16.exp x ≤ 8) (hb : b < 2 ^ 8) :
    Fp8.hf8.biasedSum x b = hf8.interp 15 (hf8BiasedUnits x b) := by
  have haligned : |fp16.rat x| + ((b / 2 : ℕ) : ℚ) * (2 : ℚ) ^ fp16.scale x =
      ((fp16Units x + b / 2 * 2 ^ (fp16.exp x - 1) : ℕ) : ℚ) * (2 : ℚ) ^ (-24 : ℤ) := by
    rw [fp16_abs_rat_eq_units, fp16_scale_eq, zpow_add₀ two_ne_zero, zpow_natCast]
    push_cast
    ring
  have hsmall : ∀ n : ℕ, (n : ℚ) * (2 : ℚ) ^ (-24 : ℤ) < 1 / 64 ↔ n < 2 ^ 18 := by
    intro n
    have hbound : (1 / 64 : ℚ) = ((2 ^ 18 : ℕ) : ℚ) * (2 : ℚ) ^ (-24 : ℤ) := by norm_num
    rw [hbound, mul_lt_mul_iff_left₀ (by positivity), Nat.cast_lt]
  rw [Fp8.biasedSum, if_neg (by decide), hf8_interp_fifteen (hf8BiasedUnits_lt he hb), hf8BiasedUnits]
  simp only [haligned, hsmall]
  split
  · rw [fp16_abs_rat_eq_units]
    push_cast
    norm_num
    ring
  · rfl

/-- An exponent above 8: the sum with half the bias. -/
theorem biasedSum_hf8_high {x : ℕ} (he : 8 < fp16.exp x) (b : ℕ) :
    Fp8.hf8.biasedSum x b = |fp16.rat x| + ((b / 2 : ℕ) : ℚ) * (2 : ℚ) ^ fp16.scale x := by
  have hlt : x % 2 ^ 15 < 2 ^ (fp16.ebits + fp16.fbits) := Nat.mod_lt _ (by norm_num)
  have hbound : fp16.rat 0x2400 = 1 / 64 := by decide +kernel
  have hlo : 1 / 64 ≤ |fp16.rat x| := by
    rw [fp16_abs_rat, ← hbound, Fmt.rat_le_rat (by decide) hlt]
    rw [fp16_exp] at he
    omega
  rw [Fp8.biasedSum, if_neg (by decide)]
  exact if_neg (not_lt.2 (le_add_of_le_of_nonneg hlo (by positivity)))

theorem biasedSum_hf8_gap {x : ℕ} (he : 8 < fp16.exp x) (hlt : x % 2 ^ 15 < 3 * 2 ^ 13) (b : ℕ) :
    Fp8.hf8.biasedSum x b = hf8.interp 7 (x % 2 ^ 15 - 2 ^ 13) +
      ((b / 2 : ℕ) : ℚ) / 2 ^ 7 * (2 : ℚ) ^ hf8.scale ((x % 2 ^ 15 - 2 ^ 13) / 2 ^ 7) := by
  rw [biasedSum_hf8_high he, fp16_abs_rat_eq_hf8 he hlt, fp16_scale_eq_hf8 he hlt, zpow_sub₀ two_ne_zero, zpow_natCast]
  ring

/-- A magnitude beyond the patterns comes from a source that is out of range itself. -/
theorem Fp8.le_abs_rat_of_biasMagnitude {x b : ℕ} (hb : b < 2 ^ 8) {y : Fp8} (hm : 128 ≤ y.biasMagnitude x b) :
    y.fmt.rat (y.greatest + 1) ≤ |fp16.rat x| := by
  have hlt : x % 2 ^ 15 < 2 ^ (fp16.ebits + fp16.fbits) := Nat.mod_lt _ (by norm_num)
  rw [fp16_abs_rat]
  cases y with
  | bf8 =>
    have hbound : Machine.bf8.rat 0x7C = fp16.rat 0x7C00 := by decide +kernel
    refine hbound.trans_le ((Fmt.rat_le_rat (by decide) hlt).2 ?_)
    simp only [Fp8.biasMagnitude] at hm
    omega
  | hf8 =>
    have hbound : Machine.hf8.rat 0x7F = fp16.rat 0x5F80 := by decide +kernel
    refine hbound.trans_le ((Fmt.rat_le_rat (by decide) hlt).2 ?_)
    simp only [Fp8.biasMagnitude] at hm
    split at hm
    next he =>
      have := hf8BiasedUnits_lt he hb
      omega
    next => omega

/-- A bias adds. -/
theorem Fp8.abs_rat_le_biasedSum (y : Fp8) (x b : ℕ) : |fp16.rat x| ≤ y.biasedSum x b := by
  unfold Fp8.biasedSum
  dsimp only
  split
  · exact le_add_of_nonneg_right (by positivity)
  split <;> exact le_add_of_nonneg_right (by positivity)

/-- The values around the sum are those of the truncated magnitude and of the next one. -/
theorem Fp8.biasMagnitude_bracket {x b : ℕ} (hb : b < 2 ^ 8) (y : Fp8) :
    (y.biasMagnitude x b < 128 → y.fmt.rat (y.biasMagnitude x b) ≤ y.biasedSum x b) ∧
    (y.biasMagnitude x b + 1 < 128 → y.biasedSum x b < y.fmt.rat (y.biasMagnitude x b + 1)) := by
  cases y with
  | bf8 =>
    rw [biasedSum_bf8]
    exact Fmt.interp_add_bracket (f := Machine.bf8) (a := x % 2 ^ 15) hb
  | hf8 =>
    unfold Fp8.biasMagnitude
    dsimp only
    split
    next he =>
      have hbracket := Fmt.interp_add_bracket (f := Machine.hf8) (a := hf8BiasedUnits x b) (Nat.two_pow_pos 15)
      rw [add_zero, Nat.cast_zero, zero_div, zero_mul, add_zero] at hbracket
      rw [biasedSum_hf8_low he hb]
      exact hbracket
    next he =>
      by_cases hlt : x % 2 ^ 15 < 3 * 2 ^ 13
      · rw [biasedSum_hf8_gap (not_le.1 he) hlt]
        exact Fmt.interp_add_bracket (f := Machine.hf8) (a := x % 2 ^ 15 - 2 ^ 13) (c := b / 2) (by omega)
      · have hbeyond : 128 ≤ (x % 2 ^ 15 - 2 ^ 13 + b / 2) / 2 ^ 7 := by omega
        exact ⟨fun h => absurd h (not_lt.2 hbeyond), fun h => by omega⟩

/-- Out of range where the sum reaches the value after the largest number. -/
theorem Fp8.greatest_lt_biasMagnitude_iff {x b : ℕ} (hb : b < 2 ^ 8) (y : Fp8) :
    y.greatest < y.biasMagnitude x b ↔ y.fmt.rat (y.greatest + 1) ≤ y.biasedSum x b := by
  have hg := y.greatest_lt
  have hw := y.width
  obtain ⟨hlower, hupper⟩ := Fp8.biasMagnitude_bracket (x := x) hb y
  constructor
  · intro h
    by_cases hm : y.biasMagnitude x b < 128
    · exact ((Fmt.rat_le_rat (by omega) (by omega)).2 h).trans (hlower hm)
    · exact (Fp8.le_abs_rat_of_biasMagnitude hb (not_lt.1 hm)).trans (y.abs_rat_le_biasedSum x b)
  · intro h
    by_contra hle
    have hnext : y.fmt.rat (y.biasMagnitude x b + 1) ≤ y.fmt.rat (y.greatest + 1) :=
      (Fmt.rat_le_rat (by omega) (by omega)).2 (by omega)
    exact absurd h (not_le.2 ((hupper (by omega)).trans_le hnext))

/-! ## The statement -/

theorem Fp8.ofMagnitude_mod (y : Fp8) (x : ℕ) (sat : Bool) {m : ℕ} (hm : m ≤ y.greatest) :
    (y.ofMagnitude x m sat).byte % 128 = m := by
  have := y.greatest_lt
  rw [Fp8.ofMagnitude_of_le hm]
  change (x / 2 ^ 15 * 128 + m) % 128 = m
  omega

/-- Settles O45: the clauses on the byte and the flags hold of every result; a finite source gives a magnitude, which is the
rounded or the truncated value. -/
theorem fp8Saturates : Obligations.Fp8Saturates := by
  intro x b y sat hx hb greatest beyond v ulp aligned biased near trunc
  refine ⟨fun r hr => ?_, fun hfin => ?_⟩
  · obtain ⟨hsign, hnan, hbeyond, hle⟩ := Fp8Result.byte_of_convert hx hb (by simpa using hr)
    exact ⟨hsign, hnan, hbeyond, hle, fp8Flags_eq hsign⟩
  · have hnear : near = y.ofMagnitude x (y.nearMagnitude x) sat := fp16ToFp8_finite hx hfin y sat
    have htrunc : trunc = y.ofMagnitude x (y.biasMagnitude x b) sat := fp16ToFp8Bias_finite hx hb hfin y sat
    simp only [hnear, htrunc, ← Bool.not_eq_true, Fp8.ofMagnitude_overflow, not_lt]
    refine ⟨y.greatest_lt_nearMagnitude_iff x, fun hm => ?_, y.greatest_lt_biasMagnitude_iff hb, fun hm => ?_⟩
    · rw [y.ofMagnitude_mod x sat hm]
      exact Fp8.nearestEven_nearMagnitude hm
    · have hg := y.greatest_lt
      obtain ⟨hlower, hupper⟩ := Fp8.biasMagnitude_bracket (x := x) hb y
      rw [y.ofMagnitude_mod x sat hm]
      exact ⟨hlower (by omega), hupper (by omega)⟩

end Sys2Proof.Machine
end

section
/-! PROOFS. Rounding to a given number of significant bits with the exponent unbounded: the nearest value with the even
significand in a tie, also where the significand is only known with a sticky bit (spec/41_bf16_arith.md R201 step 4). -/

namespace Sys2Proof.Machine

/-! ## The nearest significand -/

/-- `n` is the nearest integer to `w`, and even where it is half a unit away. -/
def NearInt (w : ℝ) (n : ℕ) : Prop := |w - n| < 1 / 2 ∨ |w - n| = 1 / 2 ∧ n % 2 = 0

theorem NearInt.abs_le {w : ℝ} {n : ℕ} (h : NearInt w n) : |w - n| ≤ 1 / 2 := h.elim le_of_lt fun h => h.1.le

theorem nearInt_self (n : ℕ) : NearInt n n := .inl (by simp)

/-- No integer is nearer, and an equally near one is another only in a tie. -/
theorem NearInt.le_abs_sub {w : ℝ} {n : ℕ} (h : NearInt w n) (k : ℤ) :
    |w - n| ≤ |w - k| ∧ (|w - k| = |w - n| → k = n ∨ n % 2 = 0) := by
  rcases eq_or_ne k n with rfl | hk
  · simp
  · have hone : (1 : ℝ) ≤ |(k : ℝ) - n| := by exact_mod_cast Int.one_le_abs (sub_ne_zero.2 hk)
    have htri : |(k : ℝ) - n| ≤ |w - k| + |w - n| := by
      rw [abs_sub_comm w k]
      exact abs_sub_le ..
    have hle := h.abs_le
    refine ⟨by linarith, fun heq => .inr ?_⟩
    rcases h with h | h
    · linarith
    · exact h.2

/-- No value of `p` bits is nearer to a `w` in the binade of `p` bits or above than some integer, and none but an integer is
as near. -/
theorem exists_int_abs_sub_le {p : ℕ} {w : ℝ} (hp : 2 ≤ p) (hw : 2 ^ (p - 1) ≤ w) {m : ℤ} (hm : |m| < 2 ^ p) (e : ℤ) :
    ∃ k : ℤ, |w - k| ≤ |w - m * 2 ^ e| ∧ (|w - m * 2 ^ e| = |w - k| → (m : ℝ) * 2 ^ e = k) := by
  rcases le_or_gt 0 e with he | he
  · have hint : (m : ℝ) * 2 ^ e = ((m * 2 ^ e.toNat : ℤ) : ℝ) := by
      rw [Int.cast_mul, Int.cast_pow, Int.cast_ofNat, ← zpow_natCast, Int.toNat_of_nonneg he]
    exact ⟨_, by rw [hint], fun _ => hint⟩
  · have hhalf : (2 : ℝ) ^ e ≤ 1 / 2 := by
      calc (2 : ℝ) ^ e ≤ 2 ^ (-1 : ℤ) := zpow_le_zpow_right₀ one_le_two (by omega)
        _ = 1 / 2 := by norm_num
    have hmlt : (|m| : ℝ) < 2 * 2 ^ (p - 1) := by
      rw [← pow_succ', Nat.sub_add_cancel (by omega)]
      exact_mod_cast hm
    have hbelow : (m : ℝ) * 2 ^ e < 2 ^ (p - 1) := by
      calc (m : ℝ) * 2 ^ e ≤ |(m : ℝ)| * (1 / 2) :=
            mul_le_mul (le_abs_self _) hhalf (by positivity) (abs_nonneg _)
        _ < 2 ^ (p - 1) := by linarith
    have hfar : |w - ((2 ^ (p - 1) : ℤ) : ℝ)| < |w - m * 2 ^ e| := by
      push_cast
      rw [abs_of_nonneg (by linarith), abs_of_pos (by linarith)]
      linarith
    exact ⟨2 ^ (p - 1), hfar.le, fun h => absurd h hfar.ne'⟩

/-- The nearest significand of a value in the binade of `p` bits above `2^e` is the value rounded to `p` bits. -/
theorem roundedTo_of_nearInt {p n : ℕ} {e : ℤ} {w : ℝ} (hp : 2 ≤ p) (hlo : 2 ^ (p - 1) ≤ w) (hhi : w < 2 ^ p)
    (hnear : NearInt w n) : RoundedTo p (w * 2 ^ e) (n * 2 ^ e) := by
  have hU : (0 : ℝ) < 2 ^ e := by positivity
  have hdouble : 2 ^ p = 2 * 2 ^ (p - 1) := by rw [← pow_succ', Nat.sub_add_cancel (by omega)]
  obtain ⟨hnlo, hnhi⟩ : 2 ^ (p - 1) ≤ n ∧ n ≤ 2 ^ p := by
    obtain ⟨h1, h2⟩ := abs_le.1 hnear.abs_le
    have hlow : ((2 ^ (p - 1) : ℕ) : ℝ) < n + 1 := by push_cast; linarith
    have hhigh : (n : ℝ) < (2 ^ p : ℕ) + 1 := by push_cast; linarith
    exact ⟨Nat.lt_succ_iff.1 (by exact_mod_cast hlow), Nat.lt_succ_iff.1 (by exact_mod_cast hhigh)⟩
  obtain ⟨m, g, hq, hmlo, hmhi, heven⟩ : ∃ m g : ℤ, (n : ℚ) * 2 ^ e = m * 2 ^ g ∧ 2 ^ (p - 1) ≤ |m| ∧ |m| < 2 ^ p ∧
      (n % 2 = 0 → Even m) := by
    rcases hnhi.lt_or_eq with hlt | heq
    · refine ⟨n, e, by norm_cast, ?_, ?_, fun h => (Int.even_coe_nat n).2 (Nat.even_iff.2 h)⟩ <;>
        rw [Nat.abs_cast] <;> exact_mod_cast ‹_›
    · refine ⟨2 ^ (p - 1), e + 1, ?_, (abs_of_pos (by positivity)).ge, ?_, fun _ => ?_⟩
      · rw [heq, hdouble, zpow_add_one₀ two_ne_zero]
        push_cast
        ring
      · rw [abs_of_pos (by positivity)]
        exact pow_lt_pow_right₀ one_lt_two (by omega)
      · exact Int.even_pow.2 ⟨even_two, by omega⟩
  refine ⟨m, g, hq, hmlo, hmhi, fun m' e' hm' => ?_⟩
  have hscale : (m' : ℝ) * 2 ^ e' = m' * 2 ^ (e' - e) * 2 ^ e := by
    rw [mul_assoc, ← zpow_add₀ two_ne_zero, sub_add_cancel]
  obtain ⟨k, hk, hkeq⟩ := exists_int_abs_sub_le hp hlo hm' (e' - e)
  obtain ⟨hn, hneq⟩ := hnear.le_abs_sub k
  have hcast : ((n * 2 ^ e : ℚ) : ℝ) = n * 2 ^ e := by push_cast; rfl
  rw [hcast, hscale, ← sub_mul, ← sub_mul, abs_mul, abs_mul, mul_le_mul_iff_left₀ (by positivity),
    mul_left_inj' (by positivity)]
  refine ⟨hn.trans hk, fun heq => ?_⟩
  have hx := hkeq (le_antisymm (heq ▸ hn) hk)
  refine (hneq (by rw [← heq, hx])).imp (fun hkn => ?_) heven
  refine (Rat.cast_inj (α := ℝ)).1 ?_
  rw [hcast, ← Int.cast_natCast n, ← hkn, ← hx, ← hscale]
  push_cast
  rfl

/-- The rounding of the negated value is the negated rounding. -/
theorem RoundedTo.neg {p : ℕ} {v : ℝ} {q : ℚ} (h : RoundedTo p v q) : RoundedTo p (-v) (-q) := by
  obtain ⟨m, e, hq, hlo, hhi, hmin⟩ := h
  refine ⟨-m, e, by rw [hq]; push_cast; ring, by rwa [abs_neg], by rwa [abs_neg], fun m' e' hm' => ?_⟩
  have hflip : ∀ x : ℝ, |-v - x| = |v - -x| := fun x => by rw [← abs_neg]; congr 1; ring
  obtain ⟨hle, heq⟩ := hmin (-m') e' (by rwa [abs_neg])
  rw [hflip, hflip, Rat.cast_neg, neg_neg, ← neg_mul, ← Int.cast_neg]
  refine ⟨hle, fun h => (heq h).imp (fun h => ?_) Even.neg⟩
  rw [← h]
  push_cast
  ring

/-- A value of `p` bits is its own rounding. -/
theorem RoundedTo.eq_of_exact {p : ℕ} {q : ℚ} {m e : ℤ} (hm : |m| < 2 ^ p) (h : RoundedTo p ((m : ℝ) * 2 ^ e) q) :
    q = m * 2 ^ e := by
  obtain ⟨_, _, -, -, -, hmin⟩ := h
  have hle := (hmin m e hm).1
  rw [sub_self, abs_zero, abs_nonpos_iff, sub_eq_zero] at hle
  refine (Rat.cast_inj (α := ℝ)).1 ?_
  push_cast
  exact hle.symm

/-! ## A significand with a sticky bit -/

/-- The integer `M` rounds as `w` does to `p` significant bits: it is `w`, or an odd integer with at least two bits more
and `w` is strictly between its neighbours. -/
def StandsFor (p M : ℕ) (w : ℝ) : Prop := w = M ∨ p + 1 ≤ Nat.log2 M ∧ M % 2 = 1 ∧ |w - M| < 1

theorem two_pow_log2_le {M : ℕ} (hM : M ≠ 0) {k : ℕ} (hk : k ≤ Nat.log2 M) : 2 ^ k ≤ M :=
  (Nat.pow_le_pow_right two_pos hk).trans (Nat.log2_self_le hM)

theorem StandsFor.pos {p M : ℕ} {w : ℝ} (h : StandsFor p M w) (hM : M ≠ 0) : 0 < w := by
  have hone : (1 : ℝ) ≤ M := by exact_mod_cast Nat.one_le_iff_ne_zero.2 hM
  rcases h with rfl | ⟨-, -, hnear⟩
  · linarith
  · linarith [(abs_lt.1 hnear).1]

/-- The significand at `p` bits is in the binade of `p` bits. -/
theorem StandsFor.binade {p M : ℕ} {w : ℝ} (h : StandsFor p M w) (hp : 2 ≤ p) (hM : M ≠ 0) (hlog : p ≤ Nat.log2 M + 1) :
    2 ^ (p - 1) ≤ w / 2 ^ (Nat.log2 M + 1 - p) ∧ w / 2 ^ (Nat.log2 M + 1 - p) < 2 ^ p := by
  have hlow := Nat.log2_self_le hM
  have hhigh : M < 2 ^ (Nat.log2 M + 1) := Nat.lt_log2_self
  have hL : 1 ≤ Nat.log2 M := by omega
  have heven : 2 ^ Nat.log2 M % 2 = 0 := by rw [← Nat.sub_add_cancel hL, pow_succ]; omega
  have heven' : 2 ^ (Nat.log2 M + 1) % 2 = 0 := by rw [pow_succ]; omega
  rw [le_div_iff₀ (by positivity), div_lt_iff₀ (by positivity), ← pow_add, ← pow_add,
    show p - 1 + (Nat.log2 M + 1 - p) = Nat.log2 M by omega,
    show p + (Nat.log2 M + 1 - p) = Nat.log2 M + 1 by omega]
  rcases h with rfl | ⟨-, hodd, hnear⟩
  · constructor <;> exact_mod_cast ‹_›
  · obtain ⟨h1, h2⟩ := abs_lt.1 hnear
    have hlow' : ((2 ^ Nat.log2 M + 1 : ℕ) : ℝ) ≤ M := by exact_mod_cast (by omega)
    have hhigh' : ((M + 1 : ℕ) : ℝ) ≤ (2 ^ (Nat.log2 M + 1) : ℕ) := by exact_mod_cast hhigh
    push_cast at hlow' hhigh'
    constructor <;> linarith

/-- Shifted to `p` bits it rounds to the nearest significand of `w`. -/
theorem StandsFor.nearInt_roundShift {p M : ℕ} {w : ℝ} (h : StandsFor p M w) (neg : Bool) :
    NearInt (w / 2 ^ (Nat.log2 M + 1 - p)) (roundShift .rne neg M (Nat.log2 M + 1 - p)) := by
  have hround : NearInt ((M : ℝ) / 2 ^ (Nat.log2 M + 1 - p)) (roundShift .rne neg M (Nat.log2 M + 1 - p)) := by
    have hreal : ∀ n : ℕ, |(M : ℝ) / 2 ^ (Nat.log2 M + 1 - p) - n| =
        ((|(M : ℚ) / 2 ^ (Nat.log2 M + 1 - p) - n| : ℚ) : ℝ) := fun n => by push_cast; rfl
    have hhalf : (1 / 2 : ℝ) = ((1 / 2 : ℚ) : ℝ) := by push_cast; rfl
    rw [NearInt, hreal, hhalf, Rat.cast_lt, Rat.cast_inj]
    exact roundShift_rne_near neg M (Nat.log2 M + 1 - p)
  rcases h with rfl | ⟨hbits, hodd, hnear⟩
  · exact hround
  · left
    obtain ⟨t, ht⟩ : ∃ t, Nat.log2 M + 1 - p = t + 2 := ⟨Nat.log2 M + 1 - p - 2, by omega⟩
    rw [ht] at hround ⊢
    generalize roundShift .rne neg M (t + 2) = n at *
    have hpow : (2 : ℝ) ^ (t + 2) = 4 * 2 ^ t := by rw [pow_add]; ring
    have hpos : (0 : ℝ) < 2 ^ t := by positivity
    have hdist : ∀ x : ℝ, |x / 2 ^ (t + 2) - n| * 2 ^ (t + 2) = |x - n * (4 * 2 ^ t)| := fun x => by
      rw [← hpow, ← abs_of_pos (a := (2 : ℝ) ^ (t + 2)) (by positivity), ← abs_mul,
        abs_of_pos (a := (2 : ℝ) ^ (t + 2)) (by positivity), sub_mul, div_mul_cancel₀ _ (by positivity)]
    have hle : |(M : ℤ) - n * (4 * 2 ^ t)| ≤ 2 * 2 ^ t := by
      have := mul_le_mul_of_nonneg_right hround.abs_le (show (0 : ℝ) ≤ 2 ^ (t + 2) by positivity)
      rw [hdist, hpow] at this
      exact_mod_cast (by linarith : |(M : ℝ) - n * (4 * 2 ^ t)| ≤ 2 * 2 ^ t)
    have hlt : |(M : ℤ) - n * (4 * 2 ^ t)| + 1 ≤ 2 * 2 ^ t := by
      have hassoc : (n : ℤ) * (4 * 2 ^ t) = 4 * (n * 2 ^ t) := by ring
      rw [hassoc] at hle ⊢
      generalize (n : ℤ) * 2 ^ t = c at *
      generalize (2 : ℤ) ^ t = d at *
      rcases abs_cases ((M : ℤ) - 4 * c) with ⟨h, -⟩ | ⟨h, -⟩ <;> rw [h] at hle ⊢ <;> omega
    have hlt' : |(M : ℝ) - n * (4 * 2 ^ t)| + 1 ≤ 2 * 2 ^ t := by exact_mod_cast hlt
    have htri := abs_sub_le w M (n * (4 * 2 ^ t))
    refine lt_of_mul_lt_mul_right ?_ (show (0 : ℝ) ≤ 2 ^ (t + 2) by positivity)
    rw [hdist, hpow]
    linarith

/-! ## Rounding a magnitude -/

/-- The significand that rounding to `p` bits leaves. -/
theorem roundPrec_bounds {p M : ℕ} (hp : 2 ≤ p) (hM : M ≠ 0) (neg : Bool) (e : ℤ) :
    (roundPrec .rne p neg M e).1 ≠ 0 ∧ (roundPrec .rne p neg M e).1 ≤ 2 ^ p := by
  have hlow : 2 ^ (Nat.log2 M + 1 - p) ≤ M := two_pow_log2_le hM (by omega)
  have hhigh : M < 2 ^ p * 2 ^ (Nat.log2 M + 1 - p) := by
    rw [← pow_add]
    exact Nat.lt_log2_self.trans_le (Nat.pow_le_pow_right two_pos (by omega))
  have hpos : 0 < M / 2 ^ (Nat.log2 M + 1 - p) := Nat.div_pos hlow (Nat.two_pow_pos _)
  have hlt : M / 2 ^ (Nat.log2 M + 1 - p) < 2 ^ p := Nat.div_lt_of_lt_mul (by rwa [mul_comm])
  simp only [roundPrec]
  rcases roundShift_eq_or .rne neg M (Nat.log2 M + 1 - p) with h | h <;> omega

/-- The magnitude rounded to `p` bits is the rounded value that it stands for. -/
theorem StandsFor.roundedTo_roundPrec {p M : ℕ} {w : ℝ} (h : StandsFor p M w) (hp : 2 ≤ p) (hM : M ≠ 0) (neg : Bool)
    (e : ℤ) :
    RoundedTo p (w * 2 ^ e) ((roundPrec .rne p neg M e).1 * 2 ^ (roundPrec .rne p neg M e).2) := by
  simp only [roundPrec]
  rcases le_or_gt p (Nat.log2 M + 1) with hlog | hlog
  · obtain ⟨hlo, hhi⟩ := h.binade hp hM hlog
    have hw : w * 2 ^ e = w / 2 ^ (Nat.log2 M + 1 - p) * 2 ^ (e + (Nat.log2 M + 1 - p : ℕ)) := by
      rw [zpow_add₀ two_ne_zero, zpow_natCast]
      field_simp
    rw [hw]
    exact roundedTo_of_nearInt hp hlo hhi (h.nearInt_roundShift neg)
  · obtain rfl : w = M := h.resolve_right fun h => by omega
    obtain ⟨d, hd⟩ : ∃ d, p = Nat.log2 M + 1 + d := ⟨_, (Nat.add_sub_of_le hlog.le).symm⟩
    have hexact : roundShift .rne neg M 0 = M := by simp [roundShift_rne, Nat.mod_one]
    have hshift : ∀ {K : Type} [Field K] [CharZero K], (M : K) * 2 ^ e = (M * 2 ^ d : ℕ) * 2 ^ (e - d) := by
      intro K _ _
      rw [Nat.cast_mul, Nat.cast_pow, Nat.cast_ofNat, mul_assoc, ← zpow_natCast, ← zpow_add₀ two_ne_zero, add_sub_cancel]
    rw [show Nat.log2 M + 1 - p = 0 by omega, hexact, Nat.cast_zero, add_zero, hshift, hshift]
    refine roundedTo_of_nearInt hp ?_ ?_ (nearInt_self _)
    · rw [show p - 1 = Nat.log2 M + d by omega, pow_add]
      exact_mod_cast Nat.mul_le_mul_right _ (Nat.log2_self_le hM)
    · rw [hd, pow_add]
      exact_mod_cast Nat.mul_lt_mul_of_pos_right Nat.lt_log2_self (Nat.two_pow_pos d)

end Sys2Proof.Machine
end

section
/-! PROOFS. A pattern from its fields, the classes of an operand before and after DAZ, and the rounded pattern: flushed,
infinite, or with the rounded value (spec/40_numerics_helpers.md R130 to R139, spec/41_bf16_arith.md R201). -/

namespace Sys2Proof.Machine

variable {f : Fmt}

/-! ## The fields of a packed pattern (R130) -/

section Pack

variable {e m : ℕ} (neg : Bool)

theorem Fmt.pack_eq : f.pack neg e m = 2 ^ f.fbits * (2 ^ f.ebits * neg.toNat + e) + m := by
  cases neg <;> simp [Fmt.pack, pow_add] <;> ring

theorem Fmt.frac_pack (hm : m < 2 ^ f.fbits) : f.frac (f.pack neg e m) = m := by
  rw [Fmt.frac, Fmt.pack_eq, Nat.mul_add_mod, Nat.mod_eq_of_lt hm]

theorem Fmt.pack_div (hm : m < 2 ^ f.fbits) : f.pack neg e m / 2 ^ f.fbits = 2 ^ f.ebits * neg.toNat + e := by
  rw [Fmt.pack_eq, Nat.mul_add_div (Nat.two_pow_pos _), Nat.div_eq_of_lt hm, add_zero]

theorem Fmt.exp_pack (he : e < 2 ^ f.ebits) (hm : m < 2 ^ f.fbits) : f.exp (f.pack neg e m) = e := by
  rw [Fmt.exp, Fmt.pack_div neg hm, Nat.mul_add_mod, Nat.mod_eq_of_lt he]

theorem Fmt.sign_pack (he : e < 2 ^ f.ebits) (hm : m < 2 ^ f.fbits) : f.sign (f.pack neg e m) = neg := by
  rw [Fmt.sign, Nat.testBit_eq_decide_div_mod_eq, add_comm, pow_add, ← Nat.div_div_eq_div_mul, Fmt.pack_div neg hm,
    Nat.mul_add_div (Nat.two_pow_pos _), Nat.div_eq_of_lt he]
  cases neg <;> rfl

theorem Fmt.pack_lt (he : e < 2 ^ f.ebits) (hm : m < 2 ^ f.fbits) : f.pack neg e m < 2 ^ (1 + f.ebits + f.fbits) := by
  have hhigh : 2 ^ f.ebits * neg.toNat + e + 1 ≤ 2 ^ f.ebits * 2 := by
    have := Nat.mul_le_mul_left (2 ^ f.ebits) (Bool.toNat_le neg)
    omega
  calc f.pack neg e m < 2 ^ f.fbits * (2 ^ f.ebits * neg.toNat + e + 1) := by rw [Fmt.pack_eq, mul_add_one]; omega
    _ ≤ 2 ^ f.fbits * (2 ^ f.ebits * 2) := Nat.mul_le_mul_left _ hhigh
    _ = 2 ^ (1 + f.ebits + f.fbits) := by rw [pow_add, pow_add]; ring

end Pack

@[simp] theorem Fmt.exp_zero (neg : Bool) : f.exp (f.zero neg) = 0 :=
  Fmt.exp_pack neg (Nat.two_pow_pos _) (Nat.two_pow_pos _)

@[simp] theorem Fmt.frac_zero (neg : Bool) : f.frac (f.zero neg) = 0 := Fmt.frac_pack neg (Nat.two_pow_pos _)

@[simp] theorem Fmt.sign_zero (neg : Bool) : f.sign (f.zero neg) = neg :=
  Fmt.sign_pack neg (Nat.two_pow_pos _) (Nat.two_pow_pos _)

@[simp] theorem Fmt.mag_zero (neg : Bool) : f.mag (f.zero neg) = 0 := by simp [Fmt.mag]

@[simp] theorem Fmt.isZero_zero (neg : Bool) : f.isZero (f.zero neg) = true := by simp [Fmt.isZero]

/-! ## Classes after DAZ (R131, R139) -/

theorem bf16_ebits_pos : 0 < bf16.ebits := by decide

theorem bf16_fbits_pos : 0 < bf16.fbits := by decide

theorem Fmt.isZero_iff_mag (x : ℕ) : f.isZero x = true ↔ f.mag x = 0 := by
  by_cases h : f.exp x = 0 <;> simp [Fmt.isZero, Fmt.mag, h]

theorem Fmt.rat_eq_zero_iff (x : ℕ) : f.rat x = 0 ↔ f.mag x = 0 := by
  rw [← abs_eq_zero, f.abs_rat]
  simp [zpow_ne_zero]

theorem Fmt.expOnes_ne_zero (hf : 0 < f.ebits) : f.expOnes ≠ 0 := by
  have := Nat.one_lt_two_pow hf.ne'
  unfold Fmt.expOnes
  omega

/-- The top exponent is that above the range of the normal numbers. -/
theorem Fmt.expOnes_eq (hf : 0 < f.ebits) : f.expOnes = 2 * f.bias + 1 := by
  have hdouble : 2 ^ f.ebits = 2 * 2 ^ (f.ebits - 1) := by rw [← pow_succ', Nat.sub_add_cancel hf]
  have := Nat.two_pow_pos (f.ebits - 1)
  unfold Fmt.expOnes Fmt.bias
  omega

theorem Fmt.expOnes_lt : f.expOnes < 2 ^ f.ebits := Nat.sub_lt (Nat.two_pow_pos _) one_pos

/-- DAZ leaves every pattern with a nonzero exponent. -/
theorem Fmt.daz_of_exp_ne_zero {x : ℕ} (h : f.exp x ≠ 0) : f.daz x = x := if_neg (by simp [Fmt.isDenormal, h])

theorem Fmt.daz_eq (x : ℕ) : f.daz x = x ∨ f.exp x = 0 ∧ f.daz x = f.zero (f.sign x) := by
  unfold Fmt.daz
  split
  next h => exact .inr ⟨by simp [Fmt.isDenormal] at h; exact h.1, rfl⟩
  next => exact .inl rfl

@[simp] theorem Fmt.sign_daz (x : ℕ) : f.sign (f.daz x) = f.sign x := by
  rcases f.daz_eq x with h | ⟨-, h⟩ <;> simp [h]

@[simp] theorem Fmt.exp_daz (x : ℕ) : f.exp (f.daz x) = f.exp x := by
  rcases f.daz_eq x with h | ⟨he, h⟩
  · rw [h]
  · rw [h, Fmt.exp_zero, he]

theorem Fmt.isNaN_of_exp_zero (hf : 0 < f.ebits) {x : ℕ} (h : f.exp x = 0) : f.isNaN x = false := by
  simp [Fmt.isNaN, h, (f.expOnes_ne_zero hf).symm]

theorem Fmt.isInf_of_exp_zero (hf : 0 < f.ebits) {x : ℕ} (h : f.exp x = 0) : f.isInf x = false := by
  simp [Fmt.isInf, h, (f.expOnes_ne_zero hf).symm]

theorem Fmt.isNaN_daz (hf : 0 < f.ebits) (x : ℕ) : f.isNaN (f.daz x) = f.isNaN x := by
  rcases f.daz_eq x with h | ⟨he, -⟩
  · rw [h]
  · rw [Fmt.isNaN_of_exp_zero hf he, Fmt.isNaN_of_exp_zero hf (by rw [Fmt.exp_daz, he])]

theorem Fmt.isInf_daz (hf : 0 < f.ebits) (x : ℕ) : f.isInf (f.daz x) = f.isInf x := by
  rcases f.daz_eq x with h | ⟨he, -⟩
  · rw [h]
  · rw [Fmt.isInf_of_exp_zero hf he, Fmt.isInf_of_exp_zero hf (by rw [Fmt.exp_daz, he])]

theorem Fmt.daz_of_isNaN (hf : 0 < f.ebits) {x : ℕ} (h : f.isNaN x = true) : f.daz x = x := by
  refine Fmt.daz_of_exp_ne_zero ?_
  simp only [Fmt.isNaN, Bool.and_eq_true, beq_iff_eq] at h
  exact h.1 ▸ f.expOnes_ne_zero hf

/-- A number that is zero after DAZ has exponent 0. -/
theorem Fmt.exp_of_isZero_daz {x : ℕ} (h : f.isZero (f.daz x) = true) : f.exp x = 0 := by
  simp only [Fmt.isZero, Bool.and_eq_true, beq_iff_eq, Fmt.exp_daz] at h
  exact h.1

/-- After DAZ exponent 0 is left to the zeros. -/
theorem Fmt.isZero_daz_iff (x : ℕ) : f.isZero (f.daz x) = true ↔ f.exp x = 0 := by
  refine ⟨Fmt.exp_of_isZero_daz, fun he => ?_⟩
  unfold Fmt.daz
  split
  next => simp
  next h => simpa [Fmt.isZero, Fmt.isDenormal, he] using h

theorem Fmt.isInf_of_isFinite {x : ℕ} (h : f.isFinite x = true) : f.isInf x = false := by
  simp only [Fmt.isFinite, Bool.and_eq_true, bne_iff_ne] at h
  simp [Fmt.isInf, h.2]

theorem Fmt.isNaN_of_isFinite {x : ℕ} (h : f.isFinite x = true) : f.isNaN x = false := by
  simp only [Fmt.isFinite, Bool.and_eq_true, bne_iff_ne] at h
  simp [Fmt.isNaN, h.2]

/-- An infinite operand as an exact value. -/
theorem Fmt.dazValue_inf (hf : 0 < f.ebits) {x : ℕ} (h : f.isInf x = true) : f.dazValue x = .inf (f.sign x) := by
  simp [Fmt.dazValue, Fmt.value, f.isInf_daz hf, h]

/-- An operand that is no infinity as an exact value. -/
theorem Fmt.dazValue_fin (hf : 0 < f.ebits) {x : ℕ} (h : f.isInf x = false) :
    f.dazValue x = .fin (f.sign x) (f.mag (f.daz x)) (f.scale (f.daz x)) := by
  simp [Fmt.dazValue, Fmt.value, f.isInf_daz hf, h, Fmt.finite]

/-! ## The rounded pattern (R201) -/

/-- The value of a sign, a magnitude and a scale. -/
def signedValue (neg : Bool) (m : ℕ) (e : ℤ) : ℚ := (if neg then -1 else 1) * ((m : ℚ) * (2 : ℚ) ^ e)

theorem Fmt.rat_eq_signedValue (x : ℕ) : f.rat x = signedValue (f.sign x) (f.mag x) (f.scale x) := f.rat_eq x

theorem abs_signedValue (neg : Bool) (m : ℕ) (e : ℤ) : |signedValue neg m e| = (m : ℚ) * 2 ^ e := by
  have h : |(m : ℚ) * 2 ^ e| = (m : ℚ) * 2 ^ e := abs_of_nonneg (by positivity)
  cases neg <;> simp [signedValue, h]

theorem signedValue_eq_zero_iff (neg : Bool) (m : ℕ) (e : ℤ) : signedValue neg m e = 0 ↔ m = 0 := by
  rw [← abs_eq_zero, abs_signedValue]
  simp [zpow_ne_zero]

/-- A nonzero value is negative where its sign says so. -/
theorem signedValue_neg_iff {m : ℕ} (hm : m ≠ 0) (neg : Bool) (e : ℤ) : neg = true ↔ signedValue neg m e < 0 := by
  have hpos : 0 < (m : ℚ) * 2 ^ e := by positivity
  cases neg
  · simpa [signedValue] using hpos.le
  · simpa [signedValue] using hpos

/-- A value is in the binade of its leading bit. -/
theorem topExp_bounds {m : ℕ} (hm : m ≠ 0) (e : ℤ) :
    (2 : ℚ) ^ topExp m e ≤ m * 2 ^ e ∧ (m : ℚ) * 2 ^ e < 2 ^ (topExp m e + 1) := by
  have hpos : (0 : ℚ) < 2 ^ e := by positivity
  have hnext : topExp m e + 1 = ((Nat.log2 m + 1 : ℕ) : ℤ) + e := by unfold topExp; push_cast; ring
  rw [hnext, topExp, zpow_add₀ two_ne_zero, zpow_add₀ two_ne_zero, zpow_natCast, zpow_natCast]
  exact ⟨mul_le_mul_of_nonneg_right (by exact_mod_cast Nat.log2_self_le hm) hpos.le,
    mul_lt_mul_of_pos_right (by exact_mod_cast Nat.lt_log2_self) hpos⟩

theorem topExp_lt_iff {m : ℕ} (hm : m ≠ 0) (e k : ℤ) : topExp m e < k ↔ (m : ℚ) * 2 ^ e < 2 ^ k := by
  obtain ⟨hlo, hhi⟩ := topExp_bounds hm e
  constructor
  · exact fun h => hhi.trans_le (zpow_le_zpow_right₀ one_le_two (by omega))
  · exact fun h => (zpow_lt_zpow_iff_right₀ one_lt_two).1 (hlo.trans_lt h)

/-- A significand of at most `n + 1` bits, or the next power of two, moved so that its leading bit has the weight `2^n`. -/
theorem exists_aligned {n m : ℕ} (hm : m ≠ 0) (hle : m ≤ 2 ^ (n + 1)) :
    ∃ sig, sig = (if Nat.log2 m ≤ n then m * 2 ^ (n - Nat.log2 m) else m / 2 ^ (Nat.log2 m - n)) ∧
      2 ^ n ≤ sig ∧ sig < 2 ^ (n + 1) ∧ (sig : ℚ) = m * 2 ^ ((n : ℤ) - Nat.log2 m) := by
  refine ⟨_, rfl, ?_⟩
  have hlow := Nat.log2_self_le hm
  have hhigh : m < 2 ^ (Nat.log2 m + 1) := Nat.lt_log2_self
  split
  next h =>
    obtain ⟨d, rfl⟩ := Nat.exists_eq_add_of_le h
    rw [Nat.add_sub_cancel_left]
    refine ⟨?_, ?_, ?_⟩
    · rw [pow_add]
      exact Nat.mul_le_mul_right _ hlow
    · rw [add_right_comm, pow_add]
      exact Nat.mul_lt_mul_of_pos_right hhigh (Nat.two_pow_pos d)
    · rw [Nat.cast_add, add_sub_cancel_left, zpow_natCast]
      push_cast
      rfl
  next h =>
    have hlog : Nat.log2 m = n + 1 := by
      have := (Nat.pow_le_pow_iff_right one_lt_two).1 (hlow.trans hle)
      omega
    obtain rfl : m = 2 ^ (n + 1) := le_antisymm hle (hlog ▸ hlow)
    have hhalf : 2 ^ (n + 1) / 2 ^ (n + 1 - n) = 2 ^ n := by
      rw [Nat.pow_div (by omega) two_pos]
      congr 1
      omega
    rw [hlog, hhalf]
    refine ⟨le_rfl, Nat.pow_lt_pow_right one_lt_two (Nat.lt_succ_self n), ?_⟩
    push_cast
    rw [← zpow_natCast, ← zpow_natCast, ← zpow_add₀ two_ne_zero]
    congr 1
    push_cast
    ring

/-- A magnitude in the normal range as a pattern. -/
theorem Fmt.normal_spec (hf : 0 < f.ebits) {m : ℕ} {e : ℤ} (hm : m ≠ 0) (hle : m ≤ 2 ^ (f.fbits + 1))
    (hlo : 1 - (f.bias : ℤ) ≤ topExp m e) (hhi : topExp m e ≤ f.bias) (neg : Bool) :
    f.isFinite (f.normal neg m e) = true ∧ f.isDenormal (f.normal neg m e) = false ∧
      f.rat (f.normal neg m e) = signedValue neg m e := by
  obtain ⟨sig, hsig, hsiglo, hsighi, hval⟩ := exists_aligned hm hle
  obtain ⟨E, hE⟩ : ∃ E : ℕ, topExp m e + f.bias = E := ⟨_, (Int.toNat_of_nonneg (by omega)).symm⟩
  have hones := f.expOnes_eq hf
  have hbound : E < f.expOnes := by omega
  have hpos : E ≠ 0 := by omega
  have hfield := hbound.trans f.expOnes_lt
  have hfrac : sig - 2 ^ f.fbits < 2 ^ f.fbits := by rw [pow_succ] at hsighi; omega
  have hpack : f.normal neg m e = f.pack neg E (sig - 2 ^ f.fbits) := by simp only [Fmt.normal, ← hsig, hE, Int.toNat_natCast]
  have hmag : 2 ^ f.fbits + (sig - 2 ^ f.fbits) = sig := Nat.add_sub_of_le hsiglo
  rw [hpack]
  refine ⟨?_, ?_, ?_⟩
  · simp [Fmt.isFinite, Fmt.pack_lt neg hfield hfrac, Fmt.exp_pack neg hfield hfrac, hbound.ne]
  · simp [Fmt.isDenormal, Fmt.exp_pack neg hfield hfrac, hpos]
  · rw [f.rat_eq, Fmt.sign_pack neg hfield hfrac, Fmt.mag, Fmt.scale, Fmt.exp_pack neg hfield hfrac,
      Fmt.frac_pack neg hfrac, if_neg hpos, if_neg hpos, hmag, hval, mul_assoc (m : ℚ), ← zpow_add₀ two_ne_zero, signedValue]
    congr 3
    unfold topExp at hE
    omega

/-- What `roundFtz` makes of a nonzero magnitude is the flushed rounding of the value that it stands for. -/
theorem Fmt.flushedRound_roundFtz (hf : 0 < f.ebits) (hfrac : 0 < f.fbits) {neg : Bool} {M : ℕ} {e : ℤ} {w : ℝ}
    (hM : M ≠ 0) (h : StandsFor (f.fbits + 1) M w) :
    FlushedRound f ((if neg then -1 else 1) * (w * 2 ^ e)) (f.roundFtz (.fin neg M e)) := by
  obtain ⟨hm, hle⟩ := roundPrec_bounds (p := f.fbits + 1) (by omega) hM neg e
  have hround := h.roundedTo_roundPrec (by omega) hM neg e
  have hsign : neg = true ↔ (if neg then -1 else 1) * (w * 2 ^ e) < 0 := by
    have hw : 0 < w * 2 ^ e := mul_pos (h.pos hM) (by positivity)
    cases neg
    · simpa using hw.le
    · simpa using hw
  simp only [Fmt.roundFtz, if_neg hM]
  generalize (roundPrec .rne (f.fbits + 1) neg M e).1 = m at *
  generalize (roundPrec .rne (f.fbits + 1) neg M e).2 = g at *
  have hrounded : RoundedTo (f.fbits + 1) ((if neg then -1 else 1) * (w * 2 ^ e)) (signedValue neg m g) := by
    cases neg
    · simpa [signedValue] using hround
    · simpa [signedValue] using hround.neg
  refine ⟨_, neg, hrounded, hsign, ?_⟩
  rw [abs_signedValue, ← topExp_lt_iff hm, ← not_lt, ← topExp_lt_iff hm, ← not_lt, ← topExp_lt_iff hm]
  refine ⟨fun hlow => if_pos hlow, fun hhigh => ?_, fun hlow hhigh => ?_⟩
  · rw [if_neg (by omega), if_pos (by omega)]
  · rw [if_neg hlow, if_neg (by omega)]
    exact Fmt.normal_spec hf hm hle (by omega) (by omega) neg

/-- An exact magnitude. -/
theorem Fmt.flushedRound_fin (hf : 0 < f.ebits) (hfrac : 0 < f.fbits) (neg : Bool) {M : ℕ} (e : ℤ) (hM : M ≠ 0) :
    FlushedRound f (signedValue neg M e : ℚ) (f.roundFtz (.fin neg M e)) := by
  have h := f.flushedRound_roundFtz hf hfrac (neg := neg) (e := e) hM (.inl rfl)
  convert h using 1
  cases neg <;> simp [signedValue]

end Sys2Proof.Machine
end

section
/-! PROOFS. The exact operations on signed magnitudes: the value and the sign of sums and products, quotients and roots
with a sticky bit, and what the special operands give (spec/41_bf16_arith.md R201, R202). -/

namespace Sys2Proof.Machine

/-! ## Signs -/

theorem signedValue_xor (n b : Bool) (m : ℕ) (e : ℤ) :
    signedValue (n ^^ b) m e = if b then -signedValue n m e else signedValue n m e := by
  cases n <;> cases b <;> simp [signedValue]

theorem XReal.negIf_inf (b n : Bool) : (if b then (XReal.inf n).neg else .inf n) = .inf (n ^^ b) := by
  cases b <;> simp [XReal.neg]

theorem XReal.negIf_fin (b n : Bool) (m : ℕ) (e : ℤ) :
    (if b then (XReal.fin n m e).neg else .fin n m e) = .fin (n ^^ b) m e := by
  cases b <;> simp [XReal.neg]

/-! ## Sums and products -/

/-- A magnitude moved to a smaller scale. -/
theorem signedValue_align {e g : ℤ} (h : g ≤ e) (neg : Bool) (m : ℕ) :
    signedValue neg (m * 2 ^ (e - g).toNat) g = signedValue neg m e := by
  have hpow : (2 : ℚ) ^ e = 2 ^ (e - g).toNat * 2 ^ g := by
    rw [← zpow_natCast, Int.toNat_of_nonneg (by omega), ← zpow_add₀ two_ne_zero, sub_add_cancel]
  rw [signedValue, signedValue, hpow]
  push_cast
  ring

/-- The sum of two signed magnitudes has the sum of their values; a zero is negative where both terms are. -/
theorem addFinite_spec (n1 : Bool) (m1 : ℕ) (e1 : ℤ) (n2 : Bool) (m2 : ℕ) (e2 : ℤ) :
    ∃ n m e, addFinite n1 m1 e1 n2 m2 e2 = .fin n m e ∧
      signedValue n m e = signedValue n1 m1 e1 + signedValue n2 m2 e2 ∧ (m = 0 → n = (n1 && n2)) := by
  obtain ⟨g, hg⟩ : ∃ g, g = if e1 ≤ e2 then e1 else e2 := ⟨_, rfl⟩
  obtain ⟨hg1, hg2⟩ : g ≤ e1 ∧ g ≤ e2 := by split at hg <;> omega
  simp only [addFinite, ← hg]
  rw [← signedValue_align hg1, ← signedValue_align hg2]
  generalize m1 * 2 ^ (e1 - g).toNat = a1, m2 * 2 ^ (e2 - g).toNat = a2
  by_cases hn : n1 = n2
  · subst hn
    exact ⟨n1, a1 + a2, g, if_pos rfl, by simp only [signedValue]; push_cast; ring, by simp⟩
  · obtain rfl : n2 = !n1 := by cases n1 <;> cases n2 <;> simp_all
    rw [if_neg hn]
    rcases lt_trichotomy a1 a2 with h | rfl | h
    · refine ⟨!n1, a2 - a1, g, by rw [if_neg h.ne, if_neg h.not_gt], ?_, by omega⟩
      cases n1 <;> simp [signedValue, Nat.cast_sub h.le] <;> ring
    · exact ⟨false, 0, g, by simp, by cases n1 <;> simp [signedValue], by simp⟩
    · refine ⟨n1, a1 - a2, g, by rw [if_neg h.ne', if_pos h], ?_, by omega⟩
      cases n1 <;> simp [signedValue, Nat.cast_sub h.le] <;> ring

theorem signedValue_mul (n1 : Bool) (m1 : ℕ) (e1 : ℤ) (n2 : Bool) (m2 : ℕ) (e2 : ℤ) :
    signedValue (n1 ^^ n2) (m1 * m2) (e1 + e2) = signedValue n1 m1 e1 * signedValue n2 m2 e2 := by
  rw [signedValue_xor]
  simp only [signedValue, zpow_add₀ (two_ne_zero (α := ℚ))]
  cases n1 <;> cases n2 <;> simp <;> ring

/-! ## A quotient or root with a sticky bit -/

/-- Twice the integer part with a bit for the rest stands for twice the value. -/
theorem standsFor_sticky {p t : ℕ} {w : ℝ} {exact : Prop} [Decidable exact] (hbits : 2 ^ p ≤ t)
    (hexact : exact → w = 2 * t) (hbetween : ¬exact → 2 * (t : ℝ) < w ∧ w < 2 * t + 2) :
    StandsFor p (2 * t + if exact then 0 else 1) w := by
  by_cases h : exact
  · left
    rw [if_pos h, hexact h]
    push_cast
    ring
  · right
    obtain ⟨h1, h2⟩ := hbetween h
    rw [if_neg h]
    refine ⟨(Nat.le_log2 (by omega)).2 (by rw [pow_succ]; omega), by omega, ?_⟩
    push_cast
    exact abs_lt.2 ⟨by linarith, by linarith⟩

/-- The quotient of nonzero magnitudes is computed to more than `p` bits. -/
theorem divFinite_spec {bits p m1 m2 : ℕ} (hp : p ≤ bits) (h1 : m1 ≠ 0) (h2 : m2 ≠ 0) (neg : Bool) (e1 e2 : ℤ) :
    ∃ M E w, divFinite bits neg m1 e1 m2 e2 = .fin neg M E ∧ M ≠ 0 ∧ StandsFor p M w ∧
      w * 2 ^ E = (m1 : ℝ) * 2 ^ e1 / (m2 * 2 ^ e2) := by
  obtain ⟨k, hk⟩ : ∃ k, k = bits + Nat.log2 m2 + 1 := ⟨_, rfl⟩
  have hm2 : (0 : ℝ) < m2 := by exact_mod_cast Nat.pos_of_ne_zero h2
  have hdivmod : (m2 : ℝ) * (m1 * 2 ^ k / m2 : ℕ) + (m1 * 2 ^ k % m2 : ℕ) = m1 * 2 ^ k := by
    exact_mod_cast Nat.div_add_mod (m1 * 2 ^ k) m2
  have hlt : ((m1 * 2 ^ k % m2 : ℕ) : ℝ) < m2 := by exact_mod_cast Nat.mod_lt _ (Nat.pos_of_ne_zero h2)
  have hquot : 2 ^ p ≤ m1 * 2 ^ k / m2 := by
    refine (Nat.le_div_iff_mul_le (Nat.pos_of_ne_zero h2)).2 ?_
    calc 2 ^ p * m2 ≤ 2 ^ bits * 2 ^ (Nat.log2 m2 + 1) :=
          Nat.mul_le_mul (Nat.pow_le_pow_right two_pos hp) Nat.lt_log2_self.le
      _ = 1 * 2 ^ k := by rw [one_mul, hk, add_assoc, pow_add 2 bits]
      _ ≤ m1 * 2 ^ k := Nat.mul_le_mul_right _ (Nat.one_le_iff_ne_zero.2 h1)
  have hpos := Nat.two_pow_pos p
  refine ⟨_, _, 2 * (m1 * 2 ^ k) / m2, by simp only [divFinite, ← hk]; rfl, by omega, ?_, ?_⟩
  · refine standsFor_sticky hquot (fun h => ?_) fun h => ?_
    · rw [h, Nat.cast_zero, add_zero] at hdivmod
      rw [← hdivmod]
      field_simp
    · have hrest : (0 : ℝ) < (m1 * 2 ^ k % m2 : ℕ) := by exact_mod_cast Nat.pos_of_ne_zero h
      rw [lt_div_iff₀ hm2, div_lt_iff₀ hm2]
      constructor <;> linarith
  · rw [zpow_sub_one₀ two_ne_zero, zpow_sub₀ two_ne_zero, zpow_sub₀ two_ne_zero, zpow_natCast]
    field_simp

/-- The bitwise root keeps `r^2 ≤ n < (r + 2^b)^2`. -/
theorem isqrtFrom_eq_sqrt {n b r : ℕ} (hlo : r * r ≤ n) (hhi : n < (r + 2 ^ b) * (r + 2 ^ b)) :
    isqrtFrom n b r = Nat.sqrt n := by
  induction b generalizing r with
  | zero => exact Nat.eq_sqrt.2 ⟨hlo, hhi⟩
  | succ b ih =>
    rw [isqrtFrom]
    split
    next h => exact ih h (by rwa [add_assoc, ← two_mul, ← pow_succ'])
    next h => exact ih hlo (not_le.1 h)

theorem isqrt_eq_sqrt (n : ℕ) : isqrt n = Nat.sqrt n := by
  refine isqrtFrom_eq_sqrt (Nat.zero_le _) ?_
  rw [zero_add, ← pow_add]
  exact Nat.lt_log2_self.trans_le (Nat.pow_le_pow_right two_pos (by omega))

/-- The root of a nonzero magnitude is computed to more than `p` bits. -/
theorem sqrtFinite_spec {bits p m : ℕ} (hp : p ≤ bits) (hm : m ≠ 0) (e : ℤ) :
    ∃ M E w, sqrtFinite bits m e = .fin false M E ∧ M ≠ 0 ∧ StandsFor p M w ∧
      w * 2 ^ E = Real.sqrt ((m : ℝ) * 2 ^ e) := by
  obtain ⟨k, hk⟩ : ∃ k, k = 2 * bits + (if (e % 2 = 0) then 0 else 1) := ⟨_, rfl⟩
  obtain ⟨g, hg⟩ : ∃ g : ℤ, e - k = g + g := by
    refine ⟨(e - k) / 2, ?_⟩
    split at hk <;> omega
  obtain ⟨n, hn⟩ : ∃ n, n = m * 2 ^ k := ⟨_, rfl⟩
  have hroot : 2 ^ p ≤ Nat.sqrt n := by
    refine Nat.le_sqrt.2 ?_
    calc 2 ^ p * 2 ^ p ≤ 1 * 2 ^ k := by
          rw [one_mul, ← pow_add]
          exact Nat.pow_le_pow_right two_pos (by omega)
      _ ≤ n := hn ▸ Nat.mul_le_mul_right _ (Nat.one_le_iff_ne_zero.2 hm)
  have hpos := Nat.two_pow_pos p
  refine ⟨_, _, 2 * Real.sqrt n, by simp only [sqrtFinite, ← hk, ← hn, isqrt_eq_sqrt]; rfl, by omega, ?_, ?_⟩
  · refine standsFor_sticky hroot (fun h => ?_) fun h => ?_
    · rw [← h, Nat.cast_mul, Real.sqrt_mul_self (Nat.cast_nonneg _), h]
    · have hlo : ((Nat.sqrt n : ℕ) : ℝ) < Real.sqrt n := by
        refine Real.lt_sqrt_of_sq_lt ?_
        rw [sq]
        exact_mod_cast lt_of_le_of_ne (Nat.sqrt_le n) h
      have hhi : Real.sqrt n < (Nat.sqrt n : ℕ) + 1 := by
        refine (Real.sqrt_lt' (by positivity)).2 ?_
        rw [sq]
        exact_mod_cast Nat.lt_succ_sqrt n
      constructor <;> linarith
  · have hhalf : (e - k) / 2 = g := by omega
    have hsplit : (m : ℝ) * 2 ^ e = n * (2 ^ g * 2 ^ g) := by
      rw [← zpow_add₀ two_ne_zero, ← hg, zpow_sub₀ two_ne_zero, zpow_natCast, hn]
      push_cast
      field_simp
    rw [hhalf, hsplit, Real.sqrt_mul (Nat.cast_nonneg n), Real.sqrt_mul_self (by positivity), zpow_sub_one₀ two_ne_zero]
    ring

/-! ## The operations on patterns -/

variable {f : Fmt} {a b c : ℕ}

/-- The first NaN is the result, whatever the operation. -/
theorem Fmt.arith2_nan (op : XReal → XReal → Option XReal) (a b : ℕ) :
    (f.isNaN a = true → f.arith2 op a b = f.quiet a) ∧
      (f.isNaN a = false → f.isNaN b = true → f.arith2 op a b = f.quiet b) :=
  ⟨fun ha => by simp [Fmt.arith2, Fmt.firstNaN, ha], fun ha hb => by simp [Fmt.arith2, Fmt.firstNaN, ha, hb]⟩

theorem Fmt.arith2_numbers (op : XReal → XReal → Option XReal) (ha : f.isNaN a = false) (hb : f.isNaN b = false) :
    f.arith2 op a b = f.finish (op (f.dazValue a) (f.dazValue b)) := by
  simp [Fmt.arith2, Fmt.firstNaN, ha, hb]

theorem Fmt.fmaCore_of_mul {p : XReal} (h : (f.dazValue a).mul (f.dazValue b) = some p) (np na : Bool) :
    f.fmaCore np na a b c =
      f.finish ((if np then p.neg else p).add (if na then (f.dazValue c).neg else f.dazValue c)) := by
  simp [Fmt.fmaCore, h]

theorem Fmt.fmaCore_of_mul_none (h : (f.dazValue a).mul (f.dazValue b) = none) (np na : Bool) :
    f.fmaCore np na a b c = f.indefinite := by
  simp [Fmt.fmaCore, h]

/-- An exact result: its flushed rounding, or the zero of its sign. -/
theorem Fmt.roundFtz_value (he : 0 < f.ebits) (hm : 0 < f.fbits) (n : Bool) {m : ℕ} {e : ℤ} {v : ℚ}
    (hv : signedValue n m e = v) :
    (v ≠ 0 → FlushedRound f ((v : ℚ) : ℝ) (f.roundFtz (.fin n m e))) ∧ (v = 0 → f.roundFtz (.fin n m e) = f.zero n) := by
  subst hv
  rw [Ne, signedValue_eq_zero_iff]
  exact ⟨Fmt.flushedRound_fin he hm n e, fun h => by simp [Fmt.roundFtz, h]⟩

/-- The sum of two finite terms, rounded; an exact zero is negative where both terms are. -/
theorem Fmt.finish_add (he : 0 < f.ebits) (hm : 0 < f.fbits) {n1 n2 : Bool} {m1 m2 : ℕ} {e1 e2 : ℤ} {v : ℚ}
    (hv : signedValue n1 m1 e1 + signedValue n2 m2 e2 = v) :
    (v ≠ 0 → FlushedRound f ((v : ℚ) : ℝ) (f.finish ((XReal.fin n1 m1 e1).add (.fin n2 m2 e2)))) ∧
      (v = 0 → f.finish ((XReal.fin n1 m1 e1).add (.fin n2 m2 e2)) = f.zero (n1 && n2)) := by
  obtain ⟨n, m, e, hsum, hval, hzero⟩ := addFinite_spec n1 m1 e1 n2 m2 e2
  obtain ⟨hround, hsign⟩ := Fmt.roundFtz_value he hm n (hval.trans hv)
  simp only [XReal.add, Fmt.finish, hsum]
  refine ⟨hround, fun h => ?_⟩
  rw [hsign h, hzero ((signedValue_eq_zero_iff n m e).1 (by rw [hval, hv, h]))]

/-- The product of an infinity and an operand that is not zero. -/
theorem Fmt.mul_of_isInf (he : 0 < f.ebits) (ha : f.isInf a = true) (hb : f.isZero (f.daz b) = false) :
    (f.dazValue a).mul (f.dazValue b) = some (.inf (f.sign a ^^ f.sign b)) ∧
      (f.dazValue b).mul (f.dazValue a) = some (.inf (f.sign a ^^ f.sign b)) := by
  rw [Fmt.dazValue_inf he ha]
  cases hib : f.isInf b
  · have hmag : f.mag (f.daz b) ≠ 0 := by rw [Ne, ← Fmt.isZero_iff_mag, hb]; simp
    rw [Fmt.dazValue_fin he hib]
    simp [XReal.mul, hmag, Bool.xor_comm]
  · rw [Fmt.dazValue_inf he hib]
    simp [XReal.mul, Bool.xor_comm]

/-- The product of a zero and an infinity is invalid. -/
theorem Fmt.mul_zero_inf (he : 0 < f.ebits) (ha : f.isZero (f.daz a) = true) (hb : f.isInf b = true) :
    (f.dazValue a).mul (f.dazValue b) = none ∧ (f.dazValue b).mul (f.dazValue a) = none := by
  rw [Fmt.dazValue_inf he hb, Fmt.dazValue_fin he (Fmt.isInf_of_exp_zero he (Fmt.exp_of_isZero_daz ha)),
    (Fmt.isZero_iff_mag _).1 ha]
  simp [XReal.mul]

/-- The product of two finite operands. -/
theorem Fmt.mul_of_finite (he : 0 < f.ebits) (ha : f.isInf a = false) (hb : f.isInf b = false) :
    ∃ m e, (f.dazValue a).mul (f.dazValue b) = some (.fin (f.sign a ^^ f.sign b) m e) ∧
      signedValue (f.sign a ^^ f.sign b) m e = f.rat (f.daz a) * f.rat (f.daz b) := by
  rw [Fmt.dazValue_fin he ha, Fmt.dazValue_fin he hb]
  refine ⟨f.mag (f.daz a) * f.mag (f.daz b), f.scale (f.daz a) + f.scale (f.daz b), by simp [XReal.mul], ?_⟩
  rw [signedValue_mul, Fmt.rat_eq_signedValue, Fmt.rat_eq_signedValue, Fmt.sign_daz, Fmt.sign_daz]

/-- The value of a finite operand after DAZ. -/
theorem Fmt.signedValue_daz (x : ℕ) : signedValue (f.sign x) (f.mag (f.daz x)) (f.scale (f.daz x)) = f.rat (f.daz x) := by
  rw [Fmt.rat_eq_signedValue, Fmt.sign_daz]

end Sys2Proof.Machine
end

section
/-! PROOFS. The statements on sums, products, fused multiply-adds, quotients, roots and special operands
(spec/41_bf16_arith.md R201 to R223). -/

namespace Sys2Proof.Machine

variable {f : Fmt} {a b c : ℕ}

/-! ## Finite operands -/

theorem Fmt.add_finite (he : 0 < f.ebits) (hm : 0 < f.fbits) (ha : f.isFinite a = true) (hb : f.isFinite b = true) :
    (f.rat (f.daz a) + f.rat (f.daz b) ≠ 0 →
      FlushedRound f ((f.rat (f.daz a) + f.rat (f.daz b) : ℚ) : ℝ) (f.add a b)) ∧
    (f.rat (f.daz a) + f.rat (f.daz b) = 0 → f.add a b = f.zero (f.sign a && f.sign b)) := by
  rw [Fmt.add, Fmt.arith2_numbers _ (Fmt.isNaN_of_isFinite ha) (Fmt.isNaN_of_isFinite hb),
    Fmt.dazValue_fin he (Fmt.isInf_of_isFinite ha), Fmt.dazValue_fin he (Fmt.isInf_of_isFinite hb)]
  exact Fmt.finish_add he hm (by rw [Fmt.signedValue_daz, Fmt.signedValue_daz])

theorem Fmt.sub_finite (he : 0 < f.ebits) (hm : 0 < f.fbits) (ha : f.isFinite a = true) (hb : f.isFinite b = true) :
    (f.rat (f.daz a) - f.rat (f.daz b) ≠ 0 →
      FlushedRound f ((f.rat (f.daz a) - f.rat (f.daz b) : ℚ) : ℝ) (f.sub a b)) ∧
    (f.rat (f.daz a) - f.rat (f.daz b) = 0 → f.sub a b = f.zero (f.sign a && !f.sign b)) := by
  rw [Fmt.sub, Fmt.arith2_numbers _ (Fmt.isNaN_of_isFinite ha) (Fmt.isNaN_of_isFinite hb),
    Fmt.dazValue_fin he (Fmt.isInf_of_isFinite ha), Fmt.dazValue_fin he (Fmt.isInf_of_isFinite hb)]
  exact Fmt.finish_add he hm (by
    rw [← Bool.xor_true, signedValue_xor, if_pos rfl, Fmt.signedValue_daz, Fmt.signedValue_daz, sub_eq_add_neg])

theorem Fmt.mul_finite (he : 0 < f.ebits) (hm : 0 < f.fbits) (ha : f.isFinite a = true) (hb : f.isFinite b = true) :
    (f.rat (f.daz a) * f.rat (f.daz b) ≠ 0 →
      FlushedRound f ((f.rat (f.daz a) * f.rat (f.daz b) : ℚ) : ℝ) (f.mul a b)) ∧
    (f.rat (f.daz a) * f.rat (f.daz b) = 0 → f.mul a b = f.zero (f.sign a ^^ f.sign b)) := by
  obtain ⟨m, e, hmul, hval⟩ := Fmt.mul_of_finite he (Fmt.isInf_of_isFinite ha) (Fmt.isInf_of_isFinite hb)
  rw [Fmt.mul, Fmt.arith2_numbers _ (Fmt.isNaN_of_isFinite ha) (Fmt.isNaN_of_isFinite hb), hmul]
  exact Fmt.roundFtz_value he hm _ hval

/-- One rounding of the product and the addend with their signs. -/
theorem Fmt.fmaCore_finite (he : 0 < f.ebits) (hm : 0 < f.fbits) (ha : f.isFinite a = true) (hb : f.isFinite b = true)
    (hc : f.isFinite c = true) (np na : Bool) {v : ℚ}
    (hv : (if np then -(f.rat (f.daz a) * f.rat (f.daz b)) else f.rat (f.daz a) * f.rat (f.daz b)) +
      (if na then -f.rat (f.daz c) else f.rat (f.daz c)) = v) :
    (v ≠ 0 → FlushedRound f (v : ℝ) (f.fmaCore np na a b c)) ∧
    (v = 0 → f.fmaCore np na a b c = f.zero ((f.sign a ^^ f.sign b ^^ np) && (f.sign c ^^ na))) := by
  obtain ⟨m, e, hmul, hval⟩ := Fmt.mul_of_finite he (Fmt.isInf_of_isFinite ha) (Fmt.isInf_of_isFinite hb)
  rw [Fmt.fmaCore_of_mul hmul, XReal.negIf_fin, Fmt.dazValue_fin he (Fmt.isInf_of_isFinite hc), XReal.negIf_fin]
  exact Fmt.finish_add he hm (by rw [signedValue_xor _ np, hval, signedValue_xor _ na, Fmt.signedValue_daz, hv])

/-! ## Infinite operands -/

/-- An infinite term with one that does not oppose it. -/
theorem Fmt.finish_add_inf (he : 0 < f.ebits) {n na : Bool} (hb : f.isInf b = true → n = (f.sign b ^^ na)) :
    f.finish ((XReal.inf n).add (if na then (f.dazValue b).neg else f.dazValue b)) = f.inf n ∧
      f.finish ((if na then (f.dazValue b).neg else f.dazValue b).add (.inf n)) = f.inf n := by
  cases hib : f.isInf b
  · rw [Fmt.dazValue_fin he hib, XReal.negIf_fin]
    exact ⟨rfl, rfl⟩
  · rw [Fmt.dazValue_inf he hib, XReal.negIf_inf, ← hb hib]
    simp [XReal.add, Fmt.finish, Fmt.roundFtz]

theorem Fmt.add_inf (he : 0 < f.ebits) (hna : f.isNaN a = false) (hnb : f.isNaN b = false) (ha : f.isInf a = true)
    (hb : f.isInf b = true → f.sign a = f.sign b) : f.add a b = f.inf (f.sign a) ∧ f.add b a = f.inf (f.sign a) := by
  rw [Fmt.add, Fmt.arith2_numbers _ hna hnb, Fmt.arith2_numbers _ hnb hna, Fmt.dazValue_inf he ha]
  exact Fmt.finish_add_inf he (na := false) (by simpa using hb)

theorem Fmt.sub_inf (he : 0 < f.ebits) (hna : f.isNaN a = false) (hnb : f.isNaN b = false) (ha : f.isInf a = true)
    (hb : f.isInf b = true → f.sign a ≠ f.sign b) : f.sub a b = f.inf (f.sign a) ∧ f.sub b a = f.inf (!f.sign a) := by
  rw [Fmt.sub, Fmt.arith2_numbers _ hna hnb, Fmt.arith2_numbers _ hnb hna, Fmt.dazValue_inf he ha]
  have hne : f.isInf b = true → f.sign a = !f.sign b := fun h => Bool.eq_not.2 (hb h)
  exact ⟨(Fmt.finish_add_inf he (na := true) (by simpa using hne)).1,
    (Fmt.finish_add_inf he (na := false) fun h => by simp [hne h]).2⟩

theorem Fmt.mul_inf (he : 0 < f.ebits) (hna : f.isNaN a = false) (hnb : f.isNaN b = false) (ha : f.isInf a = true)
    (hb : f.isZero (f.daz b) = false) :
    f.mul a b = f.inf (f.sign a ^^ f.sign b) ∧ f.mul b a = f.inf (f.sign a ^^ f.sign b) := by
  obtain ⟨hab, hba⟩ := Fmt.mul_of_isInf he ha hb
  rw [Fmt.mul, Fmt.arith2_numbers _ hna hnb, Fmt.arith2_numbers _ hnb hna, hab, hba]
  exact ⟨rfl, rfl⟩

/-- A finite product with an infinite addend. -/
theorem Fmt.fmaCore_inf_addend (he : 0 < f.ebits) (ha : f.isFinite a = true) (hb : f.isFinite b = true)
    (hc : f.isInf c = true) (np na : Bool) : f.fmaCore np na a b c = f.inf (f.sign c ^^ na) := by
  obtain ⟨m, e, hmul, -⟩ := Fmt.mul_of_finite he (Fmt.isInf_of_isFinite ha) (Fmt.isInf_of_isFinite hb)
  rw [Fmt.fmaCore_of_mul hmul, XReal.negIf_fin, Fmt.dazValue_inf he hc, XReal.negIf_inf]
  rfl

/-- An infinite product with an addend that does not oppose it. -/
theorem Fmt.fmaCore_inf_product (he : 0 < f.ebits) (ha : f.isInf a = true) (hb : f.isZero (f.daz b) = false)
    (np na : Bool) (hc : f.isInf c = true → (f.sign a ^^ f.sign b ^^ np) = (f.sign c ^^ na)) :
    f.fmaCore np na a b c = f.inf (f.sign a ^^ f.sign b ^^ np) ∧
      f.fmaCore np na b a c = f.inf (f.sign a ^^ f.sign b ^^ np) := by
  obtain ⟨hab, hba⟩ := Fmt.mul_of_isInf he ha hb
  rw [Fmt.fmaCore_of_mul hab, Fmt.fmaCore_of_mul hba, XReal.negIf_inf]
  exact ⟨(Fmt.finish_add_inf he hc).1, (Fmt.finish_add_inf he hc).1⟩

/-- Settles O34: the clauses hold of every format with exponent and fraction bits. -/
theorem sumsProductsRounded : Obligations.SumsProductsRounded := by
  intro f hf a b c _ _ _ hna hnb _
  obtain ⟨he, hm⟩ : 0 < f.ebits ∧ 0 < f.fbits := by
    simp only [List.mem_cons, List.not_mem_nil, or_false] at hf
    rcases hf with rfl | rfl <;> decide
  refine ⟨fun ha hb => ?_, Fmt.add_inf he hna hnb, Fmt.sub_inf he hna hnb, Fmt.mul_inf he hna hnb, fun np na =>
    ⟨fun ha hb hc => Fmt.fmaCore_finite he hm ha hb hc np na rfl,
      fun ha hb hc => Fmt.fmaCore_inf_addend he ha hb hc np na, fun ha hb hc => Fmt.fmaCore_inf_product he ha hb np na hc⟩⟩
  obtain ⟨hadd, hadd0⟩ := Fmt.add_finite he hm ha hb
  obtain ⟨hsub, hsub0⟩ := Fmt.sub_finite he hm ha hb
  obtain ⟨hmul, hmul0⟩ := Fmt.mul_finite he hm ha hb
  exact ⟨hadd, hadd0, hsub, hsub0, hmul, hmul0⟩

/-! ## Quotients and roots -/

/-- The quotient of numbers that are not zero. -/
theorem Fmt.div_finite (he : 0 < f.ebits) (hm : 0 < f.fbits) (ha : f.isFinite a = true) (hb : f.isFinite b = true)
    (hza : f.rat (f.daz a) ≠ 0) (hzb : f.rat (f.daz b) ≠ 0) :
    FlushedRound f ((f.rat (f.daz a) / f.rat (f.daz b) : ℚ) : ℝ) (f.div a b) := by
  rw [Ne, Fmt.rat_eq_zero_iff] at hza hzb
  obtain ⟨M, E, w, hdiv, hM, hstands, hw⟩ := divFinite_spec (bits := f.guardBits) (p := f.fbits + 1) (by simp [Fmt.guardBits])
    hza hzb (f.sign a != f.sign b) (f.scale (f.daz a)) (f.scale (f.daz b))
  have hround := Fmt.flushedRound_roundFtz he hm (neg := f.sign a != f.sign b) (e := E) hM hstands
  rw [Fmt.div, Fmt.arith2_numbers _ (Fmt.isNaN_of_isFinite ha) (Fmt.isNaN_of_isFinite hb),
    Fmt.dazValue_fin he (Fmt.isInf_of_isFinite ha), Fmt.dazValue_fin he (Fmt.isInf_of_isFinite hb), XReal.div, if_neg hzb,
    if_neg hza, hdiv]
  have hval : ((f.rat (f.daz a) / f.rat (f.daz b) : ℚ) : ℝ) = (if f.sign a != f.sign b then -1 else 1) * (w * 2 ^ E) := by
    rw [hw, f.rat_eq, f.rat_eq, Fmt.sign_daz, Fmt.sign_daz]
    push_cast
    cases f.sign a <;> cases f.sign b <;> simp [neg_div, div_neg]
  rw [hval]
  exact hround

/-- The root of a positive number. -/
theorem Fmt.sqrt_finite (he : 0 < f.ebits) (hm : 0 < f.fbits) (ha : f.isFinite a = true) (hpos : 0 < f.rat (f.daz a)) :
    FlushedRound f (Real.sqrt (f.rat (f.daz a) : ℝ)) (f.sqrt a) := by
  have hz : f.mag (f.daz a) ≠ 0 := fun h => hpos.ne' ((f.rat_eq_zero_iff _).2 h)
  have hsign : f.sign a = false := by
    rw [← Bool.not_eq_true, signedValue_neg_iff hz (f.sign a) (f.scale (f.daz a)), Fmt.signedValue_daz]
    exact hpos.not_gt
  obtain ⟨M, E, w, hsqrt, hM, hstands, hw⟩ := sqrtFinite_spec (bits := f.guardBits) (p := f.fbits + 1)
    (by simp [Fmt.guardBits]) hz (f.scale (f.daz a))
  have hround := Fmt.flushedRound_roundFtz he hm (neg := false) (e := E) hM hstands
  have hval : (f.rat (f.daz a) : ℝ) = (f.mag (f.daz a) : ℝ) * 2 ^ f.scale (f.daz a) := by
    rw [f.rat_eq, Fmt.sign_daz, hsign]
    push_cast
    simp
  rw [Fmt.sqrt, Fmt.isNaN_of_isFinite ha, Fmt.dazValue_fin he (Fmt.isInf_of_isFinite ha), XReal.sqrt, if_neg hz, hsign, hval,
    ← hw]
  simpa [hsqrt, Fmt.finish] using hround

/-- Settles O35: by the classes of the operands; a zero or an infinity among them leaves one case of the operation. -/
theorem quotientsRootsRounded : Obligations.QuotientsRootsRounded := by
  intro a b _ _ hna hnb va vb sign
  have he := bf16_ebits_pos
  have hm := bf16_fbits_pos
  have hzero : ∀ {x}, bf16.rat (bf16.daz x) = 0 ↔ bf16.mag (bf16.daz x) = 0 := bf16.rat_eq_zero_iff _
  have hfin : ∀ {x}, bf16.isFinite x = true →
      bf16.dazValue x = .fin (bf16.sign x) (bf16.mag (bf16.daz x)) (bf16.scale (bf16.daz x)) :=
    fun h => Fmt.dazValue_fin he (Fmt.isInf_of_isFinite h)
  have hdiv : bf16.div a b = bf16.finish ((bf16.dazValue a).div bf16.guardBits (bf16.dazValue b)) :=
    Fmt.arith2_numbers _ hna hnb
  have hsqrt : bf16.sqrt a = bf16.finish ((bf16.dazValue a).sqrt bf16.guardBits) := by simp [Fmt.sqrt, hna]
  refine ⟨fun ha hb => ⟨Fmt.div_finite he hm ha hb, fun hza hzb => ?_, fun hza hzb => ?_⟩, fun ha hb => ?_, fun ha hb => ?_,
    Fmt.sqrt_finite he hm, fun ha hza => ?_, fun ha hs => ?_⟩
  · rw [hdiv, hfin ha, hfin hb, XReal.div, if_neg (mt hzero.2 hzb), if_pos (hzero.1 hza)]
    simp [sign, Fmt.finish, Fmt.roundFtz]
  · rw [hdiv, hfin ha, hfin hb, XReal.div, if_pos (hzero.1 hzb), if_neg (mt hzero.2 hza)]
    simp [sign, Fmt.finish, Fmt.roundFtz]
  · rw [hdiv, Fmt.dazValue_inf he ha, hfin hb]
    simp [sign, XReal.div, Fmt.finish, Fmt.roundFtz]
  · rw [hdiv, hfin ha, Fmt.dazValue_inf he hb]
    simp [sign, XReal.div, Fmt.finish, Fmt.roundFtz]
  · rw [hsqrt, hfin ha, XReal.sqrt, if_pos (hzero.1 hza)]
    simp [Fmt.finish, Fmt.roundFtz]
  · rw [hsqrt, Fmt.dazValue_inf he ha, hs]
    rfl

/-! ## NaNs and invalid combinations (R202) -/

theorem bf16_indefinite : bf16.indefinite = 0xFFC0 := rfl

/-- The first NaN is the result of VSCALEFBF16 too, which looks at the operands after DAZ. -/
theorem scalefBf16_nan (a b : ℕ) :
    (bf16.isNaN a = true → scalefBf16 a b = bf16.quiet a) ∧
      (bf16.isNaN a = false → bf16.isNaN b = true → scalefBf16 a b = bf16.quiet b) := by
  have he := bf16_ebits_pos
  simp only [scalefBf16, Fmt.isNaN_daz he]
  refine ⟨fun ha => ?_, fun ha hb => ?_⟩
  · rw [if_pos ha, Fmt.daz_of_isNaN he ha]
  · rw [ha, if_pos hb, Fmt.daz_of_isNaN he hb]
    rfl

/-- The sum of an infinity and the opposite one is invalid. -/
theorem Fmt.finish_add_opposite (he : 0 < f.ebits) {n na : Bool} (hb : f.isInf b = true) (hne : n ≠ (f.sign b ^^ na)) :
    f.finish ((XReal.inf n).add (if na then (f.dazValue b).neg else f.dazValue b)) = f.indefinite := by
  rw [Fmt.dazValue_inf he hb, XReal.negIf_inf, XReal.add, if_neg hne]
  rfl

/-- Settles O36: NaNs are selected before the operation, which answers no value for an invalid combination. -/
theorem specialOperands : Obligations.SpecialOperands := by
  intro a b c _ _ _
  have he := bf16_ebits_pos
  have hzmag : ∀ {x}, bf16.isZero (bf16.daz x) = true ↔ bf16.mag (bf16.daz x) = 0 := bf16.isZero_iff_mag _
  have hzval : ∀ {x}, bf16.isZero (bf16.daz x) = true → bf16.dazValue x = .fin (bf16.sign x) 0 (bf16.scale (bf16.daz x)) :=
    fun h => by rw [Fmt.dazValue_fin he (Fmt.isInf_of_exp_zero he (Fmt.exp_of_isZero_daz h)), hzmag.1 h]
  have hznan : ∀ {x}, bf16.isZero (bf16.daz x) = true → bf16.isNaN x = false :=
    fun h => Fmt.isNaN_of_exp_zero he (Fmt.exp_of_isZero_daz h)
  have hinan : ∀ {x}, bf16.isInf x = true → bf16.isNaN x = false := Fmt.isNaN_eq_false_of_isInf
  rw [← bf16_indefinite]
  refine ⟨?_, fun ha => if_pos ha, fun ha hb hs => ?_, fun ha hb hs => ?_, fun ha hb => ?_, fun ha hb => ?_, fun ha hb => ?_,
    fun hna hz hs => ?_, fun ha _ hb hc np na hs => ?_⟩
  · simp only [List.forall_mem_cons, List.not_mem_nil, false_implies, implies_true, and_true]
    exact ⟨Fmt.arith2_nan _ a b, Fmt.arith2_nan _ a b, Fmt.arith2_nan _ a b, Fmt.arith2_nan _ a b, scalefBf16_nan a b⟩
  · rw [Fmt.add, Fmt.arith2_numbers _ (hinan ha) (hinan hb), Fmt.dazValue_inf he ha]
    exact Fmt.finish_add_opposite he (na := false) hb (by simpa using hs)
  · rw [Fmt.sub, Fmt.arith2_numbers _ (hinan ha) (hinan hb), Fmt.dazValue_inf he ha]
    exact Fmt.finish_add_opposite he (na := true) hb (by simp [hs])
  · obtain ⟨hab, hba⟩ := Fmt.mul_zero_inf he ha hb
    rw [Fmt.mul, Fmt.arith2_numbers _ (hznan ha) (hinan hb), Fmt.arith2_numbers _ (hinan hb) (hznan ha), hab, hba]
    exact ⟨rfl, rfl, fun np na => ⟨Fmt.fmaCore_of_mul_none hab np na, Fmt.fmaCore_of_mul_none hba np na⟩⟩
  · rw [Fmt.div, Fmt.arith2_numbers _ (hznan ha) (hznan hb), hzval ha, hzval hb]
    rfl
  · rw [Fmt.div, Fmt.arith2_numbers _ (hinan ha) (hinan hb), Fmt.dazValue_inf he ha, Fmt.dazValue_inf he hb]
    rfl
  · have hmag : bf16.mag (bf16.daz a) ≠ 0 := by rw [Ne, ← hzmag, hz]; simp
    simp only [Fmt.sqrt, hna]
    cases hia : bf16.isInf a
    · rw [Fmt.dazValue_fin he hia, XReal.sqrt, if_neg hmag, hs]
      rfl
    · rw [Fmt.dazValue_inf he hia, hs]
      rfl
  · obtain ⟨hab, -⟩ := Fmt.mul_of_isInf he ha hb
    rw [Fmt.fmaCore_of_mul hab, XReal.negIf_inf]
    exact Fmt.finish_add_opposite he hc hs

end Sys2Proof.Machine
end

section
/-! PROOFS. When the BF16 arithmetic instructions complete and with which elements; maximum, minimum and fused multiply-add
(spec/41_bf16_arith.md R203 to R223). -/

namespace Sys2Proof.Machine

/-! ## Completion -/

section Done

variable {i : Instr} {s : State} {x : Zmm} {vl : VL}

theorem words_mul_le (vl : VL) : 16 * (vl.bits / 16) ≤ 512 := by cases vl <;> decide

/-- A form whose elements are a function of the two source elements. -/
theorem bf16Binary_done {f : ℕ → ℕ → ℕ} (hx : Runs i s x)
    (he : exec i s = execVec i.parts.op i.parts.vl i.parts.raw 16 (vl.bits / 16) (silent (bf16Binary f)) s) :
    VectorDone i s 0 16 (vl.bits / 16) fun j =>
      BitVec.ofNat 16 (f (lane 16 j (s.vec i.parts.raw.vvvv)).toNat (lane 16 j x).toNat) :=
  execVec_silent_done hx he (words_mul_le vl)

/-- A form whose elements are a function of the source element. -/
theorem bf16Unary_done {f : ℕ → ℕ} (hx : Runs i s x)
    (he : exec i s = execVec i.parts.op i.parts.vl i.parts.raw 16 (vl.bits / 16) (silent (bf16Unary f)) s) :
    VectorDone i s 0 16 (vl.bits / 16) fun j => BitVec.ofNat 16 (f (lane 16 j x).toNat) :=
  execVec_silent_done hx he (words_mul_le vl)

/-- The factors and the addend of an order, of the old destination and the two sources (R211). -/
def FmaOrder.roles (order : FmaOrder) (d s2 s3 : ℕ) : ℕ × ℕ × ℕ :=
  match order with
  | .o132 => (d, s3, s2)
  | .o213 => (s2, d, s3)
  | .o231 => (s2, s3, d)

theorem fmaBf16_eq (order : FmaOrder) (np na : Bool) (d s2 s3 : ℕ) :
    fmaBf16 order np na d s2 s3 =
      if bf16.isNaN d then bf16.quiet d else if bf16.isNaN s2 then bf16.quiet s2
      else if bf16.isNaN s3 then bf16.quiet s3
      else bf16.fmaCore np na (order.roles d s2 s3).1 (order.roles d s2 s3).2.1 (order.roles d s2 s3).2.2 := by
  unfold fmaBf16 Fmt.firstNaN Fmt.firstNaN Fmt.firstNaN Fmt.firstNaN
  cases bf16.isNaN d <;> cases bf16.isNaN s2 <;> cases bf16.isNaN s3 <;> cases order <;> rfl

/-- An FMA form. -/
theorem bf16Fma_done {order : FmaOrder} {np na : Bool} (hx : Runs i s x)
    (he : exec i s = execVec i.parts.op i.parts.vl i.parts.raw 16 (vl.bits / 16) (silent (bf16Fma order np na)) s) :
    VectorDone i s 0 16 (vl.bits / 16) fun j =>
      let d := (lane 16 j (s.vec i.parts.raw.reg)).toNat
      let s2 := (lane 16 j (s.vec i.parts.raw.vvvv)).toNat
      let s3 := (lane 16 j x).toNat
      let r := order.roles d s2 s3
      BitVec.ofNat 16
        (if bf16.isNaN d then bf16.quiet d else if bf16.isNaN s2 then bf16.quiet s2
         else if bf16.isNaN s3 then bf16.quiet s3 else bf16.fmaCore np na r.1 r.2.1 r.2.2) := by
  simp only [← fmaBf16_eq]
  exact execVec_silent_done hx he (words_mul_le vl)

end Done

/-! ## Maximum and minimum (R207, R208) -/

section Rel

variable {f : Fmt} {a b : ℕ}

theorem Fmt.rel_eq_gt_iff (ha : f.isNaN a = false) (hb : f.isNaN b = false) : f.rel a b = .gt ↔ f.key b < f.key a := by
  rw [Fmt.rel, ha, hb]
  rcases lt_trichotomy (f.key a) (f.key b) with h | h | h <;> simp [h, h.not_gt]

theorem Fmt.rel_eq_lt_iff (ha : f.isNaN a = false) (hb : f.isNaN b = false) : f.rel a b = .lt ↔ f.key a < f.key b := by
  rw [Fmt.rel, ha, hb]
  rcases lt_trichotomy (f.key a) (f.key b) with h | h | h <;> simp [h, h.not_gt]

end Rel

/-- The selection of R207 and R208: the first operand where it has the relation `first` to the second. -/
def selectBf16 (first : Rel) (a b : ℕ) : ℕ :=
  if bf16.isZero (bf16.daz a) && bf16.isZero (bf16.daz b) then bf16.daz b
  else if bf16.isNaN (bf16.daz a) || bf16.isNaN (bf16.daz b) then bf16.daz b
  else if bf16.rel (bf16.daz a) (bf16.daz b) = first then bf16.daz a else bf16.daz b

theorem maxBf16_eq_select : maxBf16 = selectBf16 .gt := by
  funext a b
  unfold maxBf16 selectBf16
  refine ite_congr rfl (fun _ => rfl) fun _ => ite_congr rfl (fun _ => rfl) fun hnan => ?_
  obtain ⟨ha, hb⟩ := Bool.or_eq_false_iff.1 (Bool.not_eq_true _ ▸ hnan)
  simp only [Fmt.rel_eq_gt_iff ha hb]

theorem minBf16_eq_select : minBf16 = selectBf16 .lt := by
  funext a b
  unfold minBf16 selectBf16
  refine ite_congr rfl (fun _ => rfl) fun _ => ite_congr rfl (fun _ => rfl) fun hnan => ?_
  obtain ⟨ha, hb⟩ := Bool.or_eq_false_iff.1 (Bool.not_eq_true _ ▸ hnan)
  simp only [Fmt.rel_eq_lt_iff ha hb]

/-! ## The statements -/

/-- Settles O31: both forms complete with the selection by their relation. -/
theorem bf16MaxMinResults : Obligations.Bf16MaxMinResults := by
  intro c first hc vl o s x hx
  simp only [List.mem_cons, Prod.mk.injEq, List.not_mem_nil, or_false] at hc
  rcases hc with ⟨rfl, rfl⟩ | ⟨rfl, rfl⟩
  · exact bf16Binary_done (f := selectBf16 .gt) hx (maxBf16_eq_select ▸ rfl)
  · exact bf16Binary_done (f := selectBf16 .lt) hx (minBf16_eq_select ▸ rfl)

/-- Settles O32: each form is the fused multiply-add of its order and signs. -/
theorem bf16FmaResults : Obligations.Bf16FmaResults := by
  intro c roles np na hc vl o s x hx
  simp only [List.mem_cons, Prod.mk.injEq, List.not_mem_nil, or_false] at hc
  rcases hc with ⟨rfl, rfl, rfl, rfl⟩ | ⟨rfl, rfl, rfl, rfl⟩ | ⟨rfl, rfl, rfl, rfl⟩ | ⟨rfl, rfl, rfl, rfl⟩ |
    ⟨rfl, rfl, rfl, rfl⟩ | ⟨rfl, rfl, rfl, rfl⟩ | ⟨rfl, rfl, rfl, rfl⟩ | ⟨rfl, rfl, rfl, rfl⟩ | ⟨rfl, rfl, rfl, rfl⟩ |
    ⟨rfl, rfl, rfl, rfl⟩ | ⟨rfl, rfl, rfl, rfl⟩ | ⟨rfl, rfl, rfl, rfl⟩ <;>
    exact (bf16Fma_done hx rfl :)

end Sys2Proof.Machine
end

section
/-! PROOFS. Scaling by a power of two, exponent and mantissa, and the statements on the two-source and one-source BF16
instructions (spec/41_bf16_arith.md R203 to R210, spec/42_bf16_misc.md R234, R235). -/

namespace Sys2Proof.Machine

variable {f : Fmt}

/-! ## Exact results -/

/-- A magnitude that fits in the significand is flushed, made infinite or left as it is. -/
theorem Fmt.roundFtz_exact (he : 0 < f.ebits) (hm : 0 < f.fbits) (neg : Bool) {M : ℕ} (e : ℤ) (hM : M ≠ 0)
    (hbits : M < 2 ^ (f.fbits + 1)) :
    (|signedValue neg M e| < 2 ^ (1 - (f.bias : ℤ)) → f.roundFtz (.fin neg M e) = f.zero neg) ∧
    (2 ^ (1 + (f.bias : ℤ)) ≤ |signedValue neg M e| → f.roundFtz (.fin neg M e) = f.inf neg) ∧
    (2 ^ (1 - (f.bias : ℤ)) ≤ |signedValue neg M e| → |signedValue neg M e| < 2 ^ (1 + (f.bias : ℤ)) →
      f.isFinite (f.roundFtz (.fin neg M e)) = true ∧ f.isDenormal (f.roundFtz (.fin neg M e)) = false ∧
        f.rat (f.roundFtz (.fin neg M e)) = signedValue neg M e) := by
  obtain ⟨q, n, hround, hsign, hclauses⟩ := Fmt.flushedRound_fin he hm neg e hM
  obtain ⟨m, hval, habs⟩ : ∃ m : ℤ, signedValue neg M e = m * 2 ^ e ∧ |m| = M :=
    ⟨if neg then -M else M, by cases neg <;> simp [signedValue], by cases neg <;> simp⟩
  have hlt : |m| < 2 ^ (f.fbits + 1) := by rw [habs]; exact_mod_cast hbits
  have hq : q = signedValue neg M e := by
    rw [hval] at hround ⊢
    exact RoundedTo.eq_of_exact hlt (by simpa using hround)
  have hn : n = neg := by
    rw [Bool.eq_iff_iff, hsign, signedValue_neg_iff hM neg e]
    exact_mod_cast Iff.rfl
  rwa [hq, hn] at hclauses

/-! ## VSCALEFBF16 (R210) -/

theorem add_pred_div (m : ℕ) {d : ℕ} (hd : 0 < d) : (m + d - 1) / d = if m % d = 0 then m / d else m / d + 1 := by
  obtain ⟨q, r, hr, rfl⟩ : ∃ q r, r < d ∧ m = d * q + r := ⟨m / d, m % d, Nat.mod_lt m hd, (Nat.div_add_mod m d).symm⟩
  rw [Nat.add_sub_assoc hd, add_assoc, Nat.mul_add_div hd, Nat.mul_add_div hd, Nat.mul_add_mod, Nat.mod_eq_of_lt hr,
    Nat.div_eq_of_lt hr]
  split
  next h => rw [Nat.div_eq_of_lt (a := r + (d - 1)) (by omega)]
  next h => rw [Nat.div_eq_of_lt_le (m := r + (d - 1)) (k := 1) (by omega) (by omega)]

/-- The floor of a sign, a magnitude and a scale is that of the value. -/
theorem floorFinite_eq (neg : Bool) (m : ℕ) (e : ℤ) : floorFinite neg m e = ⌊signedValue neg m e⌋ := by
  unfold floorFinite signedValue
  split
  next he =>
    have hint : (if neg then -1 else 1) * ((m : ℚ) * (2 : ℚ) ^ e) =
        ((if neg then -((m * 2 ^ e.toNat : ℕ) : ℤ) else (m * 2 ^ e.toNat : ℕ) : ℤ) : ℚ) := by
      rw [mul_zpow_of_nonneg m he]
      cases neg <;> simp
    rw [hint, Int.floor_intCast]
  next he =>
    rw [mul_zpow_of_neg m (not_le.1 he)]
    cases neg
    · simp only [Bool.false_eq_true, if_false, one_mul, floor_div_two_pow]
    · simp only [if_true, neg_one_mul, Int.floor_neg, ceil_div_two_pow, add_pred_div m (Nat.two_pow_pos _)]

theorem bf16_mag_lt (x : ℕ) : bf16.mag x < 2 ^ (bf16.fbits + 1) := by
  have hfrac : bf16.frac x < 128 := Nat.mod_lt _ (by decide)
  change (if bf16.exp x = 0 then bf16.frac x else 128 + bf16.frac x) < 256
  split <;> omega

/-- A number other than zero scaled by a power of two. -/
theorem scaleBy_daz_finite {a : ℕ} (ha : bf16.isInf a = false) (hz : bf16.mag (bf16.daz a) ≠ 0) (n : ℤ) :
    scaleBy (bf16.daz a) n =
      bf16.roundFtz (.fin (bf16.sign a) (bf16.mag (bf16.daz a)) (bf16.scale (bf16.daz a) + n)) := by
  have hval : bf16.value (bf16.daz a) = _ := Fmt.dazValue_fin bf16_ebits_pos ha
  simp only [scaleBy, hval, if_neg hz]

/-- A zero or an infinity is not scaled. -/
theorem scaleBy_daz_special {a : ℕ} (ha : bf16.isZero (bf16.daz a) = true ∨ bf16.isInf a = true) (n : ℤ) :
    scaleBy (bf16.daz a) n = bf16.daz a := by
  cases hia : bf16.isInf a
  · have hval : bf16.value (bf16.daz a) = _ := Fmt.dazValue_fin bf16_ebits_pos hia
    have hz := (bf16.isZero_iff_mag _).1 (ha.resolve_right (by simp [hia]))
    simp only [scaleBy, hval, if_pos hz]
  · have hval : bf16.value (bf16.daz a) = _ := Fmt.dazValue_inf bf16_ebits_pos hia
    simp only [scaleBy, hval]

/-- A finite second operand scales by its floor. -/
theorem scalefBf16_finite {a b : ℕ} (ha : bf16.isNaN a = false) (hb : bf16.isFinite b = true) :
    scalefBf16 a b = scaleBy (bf16.daz a) ⌊bf16.rat (bf16.daz b)⌋ := by
  have hval : bf16.value (bf16.daz b) = _ := Fmt.dazValue_fin bf16_ebits_pos (Fmt.isInf_of_isFinite hb)
  rw [← Fmt.signedValue_daz, ← floorFinite_eq]
  simp [scalefBf16, Fmt.isNaN_daz bf16_ebits_pos, ha, Fmt.isNaN_of_isFinite hb, hval]

/-- An infinite second operand. -/
theorem scalefBf16_inf {a b : ℕ} (ha : bf16.isNaN a = false) (hb : bf16.isInf b = true) :
    scalefBf16 a b =
      if bf16.sign b then (if bf16.isInf a then 0xFFC0 else bf16.zero (bf16.sign a))
      else if bf16.isZero (bf16.daz a) then 0xFFC0 else bf16.inf (bf16.sign a) := by
  have hval : bf16.value (bf16.daz b) = .inf (bf16.sign b) := Fmt.dazValue_inf bf16_ebits_pos hb
  rw [← bf16_indefinite]
  simp only [scalefBf16, Fmt.isNaN_daz bf16_ebits_pos, Fmt.isInf_daz bf16_ebits_pos, ha, Fmt.isNaN_eq_false_of_isInf hb,
    hval, Fmt.sign_daz]
  cases bf16.sign b <;> rfl

/-- Settles O30: each form completes with its function; a scaled number fits in the significand, so it is only flushed or
made infinite. -/
theorem bf16BinaryResults : Obligations.Bf16BinaryResults := by
  refine ⟨fun c f hc vl o s x hx => ?_, ?_⟩
  · simp only [List.mem_cons, Prod.mk.injEq, List.not_mem_nil, or_false] at hc
    rcases hc with ⟨rfl, rfl⟩ | ⟨rfl, rfl⟩ | ⟨rfl, rfl⟩ | ⟨rfl, rfl⟩ | ⟨rfl, rfl⟩ <;> exact bf16Binary_done hx rfl
  intro a b _ _ hna hnb va r
  refine ⟨fun hb hs => ?_, fun hb hs => ?_, fun hb ha => ?_, fun hb ha hva => ?_⟩
  · simpa [hs] using scalefBf16_inf hna hb
  · simpa [hs] using scalefBf16_inf hna hb
  · exact (scalefBf16_finite hna hb).trans (scaleBy_daz_special ha _)
  · have hz : bf16.mag (bf16.daz a) ≠ 0 := mt (bf16.rat_eq_zero_iff _).2 hva
    have hr : r = _ := (scalefBf16_finite hna hb).trans (scaleBy_daz_finite (Fmt.isInf_of_isFinite ha) hz _)
    have hval : signedValue (bf16.sign a) (bf16.mag (bf16.daz a)) (bf16.scale (bf16.daz a) + ⌊bf16.rat (bf16.daz b)⌋) =
        va * 2 ^ ⌊bf16.rat (bf16.daz b)⌋ := by
      rw [show va = _ from (Fmt.signedValue_daz a).symm, signedValue, signedValue, zpow_add₀ two_ne_zero]
      ring
    obtain ⟨hlow, hhigh, hmid⟩ := Fmt.roundFtz_exact bf16_ebits_pos bf16_fbits_pos (bf16.sign a)
      (bf16.scale (bf16.daz a) + ⌊bf16.rat (bf16.daz b)⌋) hz (bf16_mag_lt _)
    rw [hval, ← hr] at hlow hhigh hmid
    exact ⟨hlow, hhigh, fun h1 h2 => ⟨(hmid h1 h2).1, (hmid h1 h2).2.2⟩⟩

/-! ## VGETEXPBF16 (R234) -/

/-- The value of a normal pattern by its fields. -/
theorem Fmt.abs_rat_normal {x : ℕ} (h : f.exp x ≠ 0) :
    |f.rat x| = ((2 ^ f.fbits + f.frac x : ℕ) : ℚ) * 2 ^ ((f.exp x : ℤ) - f.bias - f.fbits) := by
  rw [f.abs_rat, Fmt.mag, Fmt.scale, if_neg h, if_neg h]

/-- A normal value is in the binade of its exponent. -/
theorem Fmt.normal_binade {x : ℕ} (h : f.exp x ≠ 0) :
    (2 : ℚ) ^ ((f.exp x : ℤ) - f.bias) ≤ |f.rat x| ∧ |f.rat x| < 2 ^ ((f.exp x : ℤ) - f.bias + 1) := by
  have hfrac : f.frac x < 2 ^ f.fbits := Nat.mod_lt _ (Nat.two_pow_pos _)
  have hpos : (0 : ℚ) < 2 ^ ((f.exp x : ℤ) - f.bias - f.fbits) := by positivity
  have hsplit : (2 : ℚ) ^ ((f.exp x : ℤ) - f.bias) = 2 ^ f.fbits * 2 ^ ((f.exp x : ℤ) - f.bias - f.fbits) := by
    rw [← zpow_natCast, ← zpow_add₀ two_ne_zero, add_sub_cancel]
  rw [Fmt.abs_rat_normal h, zpow_add_one₀ two_ne_zero, hsplit, mul_right_comm]
  refine ⟨mul_le_mul_of_nonneg_right ?_ hpos.le, mul_lt_mul_of_pos_right ?_ hpos⟩
  · exact_mod_cast Nat.le_add_right _ _
  · exact_mod_cast (by omega : 2 ^ f.fbits + f.frac x < 2 ^ f.fbits * 2)

theorem bf16_exp_lt {x : ℕ} (h : bf16.isFinite x = true) : bf16.exp x < 255 := by
  simp only [Fmt.isFinite, Bool.and_eq_true, bne_iff_ne] at h
  have hne : bf16.exp x ≠ 255 := h.2
  have hlt : bf16.exp x < 256 := Nat.mod_lt _ (by decide)
  omega

/-- A small integer is rounded to itself. -/
theorem bf16_roundFtz_int (neg : Bool) {M : ℕ} (hM : M ≠ 0) (hlt : M < 256) :
    bf16.isFinite (bf16.roundFtz (.fin neg M 0)) = true ∧
      bf16.rat (bf16.roundFtz (.fin neg M 0)) = (if neg then -1 else 1) * M := by
  obtain ⟨-, -, hmid⟩ := Fmt.roundFtz_exact bf16_ebits_pos bf16_fbits_pos neg 0 hM hlt
  have hone : (1 : ℚ) ≤ M := by exact_mod_cast Nat.one_le_iff_ne_zero.2 hM
  have hbound : (M : ℚ) < 256 := by exact_mod_cast hlt
  have hbias : bf16.bias = 127 := rfl
  rw [abs_signedValue, signedValue, hbias, zpow_zero, mul_one] at hmid
  obtain ⟨hfin, -, hval⟩ := hmid (by norm_num; linarith) (by norm_num; linarith)
  exact ⟨hfin, hval⟩

/-- The exponent of a normal number, as a number. -/
theorem getexpBf16_normal {x : ℕ} (hx : bf16.isFinite x = true) (hexp : bf16.exp x ≠ 0) :
    bf16.isFinite (getexpBf16 x) = true ∧ bf16.rat (getexpBf16 x) = ((bf16.exp x : ℤ) - 127 : ℤ) ∧
      (bf16.exp x = 127 → getexpBf16 x = 0) := by
  have hlt := bf16_exp_lt hx
  simp only [getexpBf16, Fmt.isNaN_of_isFinite hx, Fmt.isInf_of_isFinite hx, if_neg hexp]
  rcases lt_trichotomy (bf16.exp x) 127 with h | h | h
  · obtain ⟨hfin, hval⟩ := bf16_roundFtz_int true (M := 127 - bf16.exp x) (by omega) (by omega)
    simp only [Bool.false_eq_true, if_false, if_pos h]
    refine ⟨hfin, ?_, by omega⟩
    rw [hval, Nat.cast_sub h.le]
    push_cast
    simp
  · simp only [h, Bool.false_eq_true, if_false, lt_irrefl, Nat.sub_self, Fmt.roundFtz, if_true]
    exact ⟨by decide, by simp [Fmt.rat_eq_zero_iff], fun _ => rfl⟩
  · obtain ⟨hfin, hval⟩ := bf16_roundFtz_int false (M := bf16.exp x - 127) (by omega) (by omega)
    simp only [Bool.false_eq_true, if_false, if_neg h.not_gt]
    refine ⟨hfin, ?_, by omega⟩
    rw [hval, Nat.cast_sub h.le]
    push_cast
    simp

/-- A normal number lies in one binade only. -/
theorem Fmt.exp_of_binade {x : ℕ} (h : f.exp x ≠ 0) {e : ℤ} (hlo : (2 : ℚ) ^ e ≤ |f.rat x|)
    (hhi : |f.rat x| < (2 : ℚ) ^ (e + 1)) : e = (f.exp x : ℤ) - f.bias := by
  obtain ⟨h1, h2⟩ := Fmt.normal_binade h
  have hle := (zpow_lt_zpow_iff_right₀ (one_lt_two (α := ℚ))).1 (hlo.trans_lt h2)
  have hge := (zpow_lt_zpow_iff_right₀ (one_lt_two (α := ℚ))).1 (h1.trans_lt hhi)
  omega

/-! ## VGETMANTBF16 (R235) -/

/-- The intervals of imm8[1:0] as exponents of the result: that below 1 or that above. -/
theorem getmantExp_cases (t e m : ℕ) :
    (t = 0 → getmantExp t e m = 127) ∧
    (t = 1 → getmantExp t e m = 126 + e % 2) ∧
    (t = 2 → getmantExp t e m = 126) ∧
    (t = 3 → getmantExp t e m = if m / 64 = 1 then 126 else 127) := by
  refine ⟨?_, ?_, ?_, ?_⟩ <;> rintro rfl <;> simp only [getmantExp]
  split <;> omega

theorem getmantExp_eq_or (t e m : ℕ) : getmantExp t e m = 126 ∨ getmantExp t e m = 127 := by
  unfold getmantExp
  split
  · exact .inr rfl
  · exact ite_eq_or_eq _ _ _
  · exact .inl rfl
  · exact ite_eq_or_eq _ _ _

theorem extractLsb'_eq_iff (imm : BitVec 8) {n : ℕ} (hn : n < 4) :
    imm.extractLsb' 0 2 = BitVec.ofNat 2 n ↔ imm.toNat % 4 = n := by
  rw [← BitVec.toNat_inj, BitVec.extractLsb'_toNat, BitVec.toNat_ofNat, Nat.shiftRight_zero]
  omega

/-- A zero or an infinity gives one with the sign of the control, or the indefinite NaN. -/
theorem getmantBf16_special {imm : BitVec 8} {x : ℕ} (hx : bf16.isZero (bf16.daz x) = true ∨ bf16.isInf x = true) :
    getmantBf16 imm x =
      if bf16.isInf x = true ∧ bf16.sign x = true ∧ imm.getLsbD 3 = true then 0xFFC0
      else if bf16.sign x = true ∧ imm.getLsbD 2 = false then 0xBF80 else 0x3F80 := by
  have hone : bf16.one true = 0xBF80 ∧ bf16.one false = 0x3F80 := ⟨rfl, rfl⟩
  obtain ⟨hnan, hzero⟩ : bf16.isNaN x = false ∧ bf16.isZero (bf16.daz x) = !bf16.isInf x := by
    cases hinf : bf16.isInf x
    · have hz := hx.resolve_right (by simp [hinf])
      exact ⟨Fmt.isNaN_of_exp_zero bf16_ebits_pos (Fmt.exp_of_isZero_daz hz), hz⟩
    · refine ⟨Fmt.isNaN_eq_false_of_isInf hinf, Bool.eq_false_iff.2 fun hz => ?_⟩
      rw [Fmt.isInf_of_exp_zero bf16_ebits_pos (Fmt.exp_of_isZero_daz hz)] at hinf
      cases hinf
  simp only [getmantBf16, Fmt.isNaN_daz bf16_ebits_pos, Fmt.isInf_daz bf16_ebits_pos, Fmt.sign_daz, hnan, hzero,
    bf16_indefinite]
  cases bf16.isInf x <;> cases bf16.sign x <;> cases imm.getLsbD 2 <;> cases imm.getLsbD 3 <;> simp [hone]

/-- A normal number keeps its fraction, or gives the indefinite NaN. -/
theorem getmantBf16_normal {imm : BitVec 8} {x : ℕ} (hx : bf16.isFinite x = true) (hexp : bf16.exp x ≠ 0) :
    getmantBf16 imm x =
      if bf16.sign x = true ∧ imm.getLsbD 3 = true then 0xFFC0
      else bf16.pack (bf16.sign x && !imm.getLsbD 2) (getmantExp (imm.toNat % 4) (bf16.exp x) (bf16.frac x))
        (bf16.frac x) := by
  have hzero : bf16.isZero x = false := by simp [Fmt.isZero, hexp]
  simp only [getmantBf16, Fmt.daz_of_exp_ne_zero hexp, Fmt.isNaN_of_isFinite hx, Fmt.isInf_of_isFinite hx, hzero,
    bf16_indefinite, Bool.and_eq_true, Bool.false_eq_true, if_false, Bool.and_comm, and_comm]

/-- A result with the fraction of the source and the exponent 126 or 127. -/
theorem bf16_rat_pack {m : ℕ} (hm : m < 128) (neg : Bool) {E : ℕ} (hE : E = 126 ∨ E = 127) :
    bf16.isFinite (bf16.pack neg E m) = true ∧ bf16.sign (bf16.pack neg E m) = neg ∧
      |bf16.rat (bf16.pack neg E m)| = (128 + m : ℚ) / (if E = 126 then 256 else 128) := by
  have hfield : E < 2 ^ bf16.ebits := by change E < 256; omega
  have hfrac : m < 2 ^ bf16.fbits := hm
  have hexp := Fmt.exp_pack neg hfield hfrac
  refine ⟨?_, Fmt.sign_pack neg hfield hfrac, ?_⟩
  · have hones : E ≠ bf16.expOnes := by change E ≠ 255; omega
    simp [Fmt.isFinite, Fmt.pack_lt neg hfield hfrac, hexp, hones]
  · rw [Fmt.abs_rat_normal (by omega), hexp, Fmt.frac_pack neg hfrac]
    have hbias : bf16.bias = 127 := rfl
    have hbits : bf16.fbits = 7 := rfl
    rw [hbias, hbits]
    rcases hE with rfl | rfl <;> norm_num <;> ring

/-- The result is the source times a power of two, an even one for interval 1. -/
theorem getmant_scaled {x : ℕ} (hexp : bf16.exp x ≠ 0) (neg : Bool) (t : ℕ) :
    ∃ k : ℤ, |bf16.rat (bf16.pack neg (getmantExp t (bf16.exp x) (bf16.frac x)) (bf16.frac x))| =
      |bf16.rat x| * (2 : ℚ) ^ k ∧ (t = 1 → k % 2 = 0) := by
  obtain ⟨-, hone, -, -⟩ := getmantExp_cases t (bf16.exp x) (bf16.frac x)
  have hE := getmantExp_eq_or t (bf16.exp x) (bf16.frac x)
  generalize getmantExp t (bf16.exp x) (bf16.frac x) = E at *
  have hfield : E < 2 ^ bf16.ebits := by change E < 256; omega
  have hfrac : bf16.frac x < 2 ^ bf16.fbits := Nat.mod_lt _ (Nat.two_pow_pos _)
  have hexp' := Fmt.exp_pack neg hfield hfrac
  refine ⟨(E : ℤ) - bf16.exp x, ?_, fun h => ?_⟩
  · rw [Fmt.abs_rat_normal hexp, Fmt.abs_rat_normal (by omega), hexp', Fmt.frac_pack neg hfrac, mul_assoc,
      ← zpow_add₀ two_ne_zero]
    congr 2
    ring
  · have := hone h
    omega

/-- The interval of imm8[1:0] holds the result. -/
theorem getmant_interval {m : ℕ} (hm : m < 128) (t e : ℕ) (neg : Bool) :
    let v := |bf16.rat (bf16.pack neg (getmantExp t e m) m)|
    (t = 0 → 1 ≤ v ∧ v < 2) ∧ (t = 1 → 1 / 2 ≤ v ∧ v < 2) ∧ (t = 2 → 1 / 2 ≤ v ∧ v < 1) ∧
      (t = 3 → 3 / 4 ≤ v ∧ v < 3 / 2) := by
  intro v
  obtain ⟨h0, -, h2, h3⟩ := getmantExp_cases t e m
  have hE := getmantExp_eq_or t e m
  have hv : v = (128 + m : ℚ) / (if getmantExp t e m = 126 then 256 else 128) := (bf16_rat_pack hm neg hE).2.2
  have hlo : (0 : ℚ) ≤ m := Nat.cast_nonneg m
  have hhi : (m : ℚ) < 128 := by exact_mod_cast hm
  rw [hv]
  refine ⟨fun h => ?_, fun h => ?_, fun h => ?_, fun h => ?_⟩
  · rw [h0 h, if_neg (by decide)]
    constructor <;> linarith
  · split <;> constructor <;> linarith
  · rw [h2 h, if_pos rfl]
    constructor <;> linarith
  · rw [h3 h]
    split
    next hbit =>
      have hbig : (64 : ℚ) ≤ m := by exact_mod_cast (by omega : 64 ≤ m)
      rw [if_pos rfl]
      constructor <;> linarith
    next hbit =>
      have hsmall : (m : ℚ) < 64 := by exact_mod_cast (by omega : m < 64)
      rw [if_neg (by decide)]
      constructor <;> linarith

/-- A normal number whose sign is allowed: the sign, the scaling and the interval of the result. -/
theorem getmantBf16_allowed {imm : BitVec 8} {x : ℕ} (hx : bf16.isFinite x = true) (hexp : bf16.exp x ≠ 0)
    (hallowed : ¬(bf16.sign x = true ∧ imm.getLsbD 3 = true)) :
    let r := getmantBf16 imm x
    bf16.isFinite r = true ∧ bf16.sign r = (bf16.sign x && !imm.getLsbD 2) ∧
      (∃ k : ℤ, |bf16.rat r| = |bf16.rat x| * (2 : ℚ) ^ k ∧ (imm.extractLsb' 0 2 = 1#2 → k % 2 = 0)) ∧
      (imm.extractLsb' 0 2 = 0#2 → 1 ≤ |bf16.rat r| ∧ |bf16.rat r| < 2) ∧
      (imm.extractLsb' 0 2 = 1#2 → 1 / 2 ≤ |bf16.rat r| ∧ |bf16.rat r| < 2) ∧
      (imm.extractLsb' 0 2 = 2#2 → 1 / 2 ≤ |bf16.rat r| ∧ |bf16.rat r| < 1) ∧
      (imm.extractLsb' 0 2 = 3#2 → 3 / 4 ≤ |bf16.rat r| ∧ |bf16.rat r| < 3 / 2) := by
  intro r
  have hr : r = _ := (getmantBf16_normal hx hexp).trans (if_neg hallowed)
  have hfrac : bf16.frac x < 128 := Nat.mod_lt _ (by decide)
  have hE := getmantExp_eq_or (imm.toNat % 4) (bf16.exp x) (bf16.frac x)
  rw [hr, extractLsb'_eq_iff imm (n := 0) (by decide), extractLsb'_eq_iff imm (n := 1) (by decide),
    extractLsb'_eq_iff imm (n := 2) (by decide), extractLsb'_eq_iff imm (n := 3) (by decide)]
  obtain ⟨hfin, hsign, -⟩ := bf16_rat_pack hfrac (bf16.sign x && !imm.getLsbD 2) hE
  exact ⟨hfin, hsign, getmant_scaled hexp _ _, getmant_interval hfrac _ _ _⟩

/-! ## The one-source forms -/

/-- Settles O33: each form completes with its function; exponent and mantissa by the class of the source. -/
theorem bf16UnaryResults : Obligations.Bf16UnaryResults := by
  refine ⟨fun c f hc vl o s x hx => ?_, fun c f hc vl o imm s x hx => ?_, fun x _ => ⟨fun hnan => ⟨if_pos hnan, fun imm => ?_⟩,
    fun hinf => ?_, fun hexp => ?_, fun e hfin hexp hlo hhi => ?_, ?_⟩⟩
  · simp only [List.mem_cons, Prod.mk.injEq, List.not_mem_nil, or_false] at hc
    rcases hc with ⟨rfl, rfl⟩ | ⟨rfl, rfl⟩ | ⟨rfl, rfl⟩ | ⟨rfl, rfl⟩ <;> exact bf16Unary_done hx rfl
  · simp only [List.mem_cons, Prod.mk.injEq, List.not_mem_nil, or_false] at hc
    rcases hc with ⟨rfl, rfl⟩ | ⟨rfl, rfl⟩ | ⟨rfl, rfl⟩ <;> exact bf16Unary_done hx rfl
  · simp [getmantBf16, Fmt.daz_of_isNaN bf16_ebits_pos hnan, hnan]
  · simp only [getexpBf16, Fmt.isNaN_eq_false_of_isInf hinf, hinf]
    rfl
  · simp only [getexpBf16, Fmt.isNaN_of_exp_zero bf16_ebits_pos hexp, Fmt.isInf_of_exp_zero bf16_ebits_pos hexp, hexp]
    rfl
  · obtain ⟨hgfin, hval, hzero⟩ := getexpBf16_normal hfin hexp
    have hbias : bf16.bias = 127 := rfl
    have he := Fmt.exp_of_binade hexp hlo hhi
    rw [hbias] at he
    refine ⟨hgfin, ?_, fun h => hzero (by omega)⟩
    rw [hval, he]
    norm_cast
  · intro imm y r minusOne
    have hinfy : bf16.isInf y = bf16.isInf x := Fmt.isInf_daz bf16_ebits_pos x
    rw [hinfy]
    refine ⟨fun hx hs => ?_, fun hx hs => ?_, fun hx hs => ?_, fun hfin hz => ?_⟩
    · simpa [hs] using getmantBf16_special (imm := imm) hx
    · have hinf := Fmt.isInf_of_exp_zero bf16_ebits_pos (Fmt.exp_of_isZero_daz hx)
      rw [show r = _ from getmantBf16_special (.inl hx)]
      cases h2 : imm.getLsbD 2 <;> simp only [minusOne, hinf, hs, h2] <;> rfl
    · rw [show r = _ from getmantBf16_special (.inr hx)]
      cases h2 : imm.getLsbD 2 <;> simp only [minusOne, hx, hs, h2, true_and] <;> rfl
    · have hexp : bf16.exp x ≠ 0 := fun h => by simp [y, (bf16.isZero_daz_iff x).2 h] at hz
      have hy : y = x := Fmt.daz_of_exp_ne_zero hexp
      rw [hy] at hfin ⊢
      have hr : r = _ := getmantBf16_normal hfin hexp
      split_ifs with hinvalid
      · rw [hr, if_pos hinvalid]
      · exact getmantBf16_allowed hfin hexp hinvalid

end Sys2Proof.Machine
end

section
/-! PROOFS. The fields of a pattern, the order of the patterns of a format and of their values, and the statements on the
BF16 compares and classes (spec/42_bf16_misc.md R231 to R233, R240). -/

namespace Sys2Proof.Machine

variable {f : Fmt} {a b x : ℕ}

/-! ## A pattern and its fields (R130) -/

/-- The bits below the sign are the exponent and the fraction. -/
theorem Fmt.mod_eq_fields (x : ℕ) : x % 2 ^ (f.ebits + f.fbits) = f.exp x * 2 ^ f.fbits + f.frac x := by
  rw [add_comm f.ebits, pow_add, Nat.mod_mul, add_comm, mul_comm]
  rfl

/-- A pattern of the format is packed from its own fields. -/
theorem Fmt.pack_fields (hx : x < 2 ^ (1 + f.ebits + f.fbits)) : f.pack (f.sign x) (f.exp x) (f.frac x) = x := by
  have hsign : (f.sign x).toNat = x / 2 ^ f.fbits / 2 ^ f.ebits := by
    have hlt : x / 2 ^ (f.ebits + f.fbits) < 2 := Nat.div_lt_of_lt_mul (by rwa [← pow_succ, add_comm, ← add_assoc])
    rw [Fmt.sign, Nat.toNat_testBit, Nat.mod_eq_of_lt hlt, add_comm, pow_add, Nat.div_div_eq_div_mul]
  rw [Fmt.pack_eq, hsign, Fmt.exp, Nat.div_add_mod, Fmt.frac, Nat.div_add_mod]

theorem Fmt.zero_lt (neg : Bool) : f.zero neg < 2 ^ (1 + f.ebits + f.fbits) :=
  Fmt.pack_lt neg (Nat.two_pow_pos _) (Nat.two_pow_pos _)

theorem Fmt.daz_lt (hx : x < 2 ^ (1 + f.ebits + f.fbits)) : f.daz x < 2 ^ (1 + f.ebits + f.fbits) := by
  rcases f.daz_eq x with h | ⟨-, h⟩ <;> rw [h]
  · exact hx
  · exact Fmt.zero_lt _

/-- A zero is the zero of its sign. -/
theorem Fmt.eq_zero_iff (hx : x < 2 ^ (1 + f.ebits + f.fbits)) (neg : Bool) :
    x = f.zero neg ↔ f.isZero x = true ∧ f.sign x = neg := by
  constructor
  · rintro rfl
    simp
  · rintro ⟨h, rfl⟩
    simp only [Fmt.isZero, Bool.and_eq_true, beq_iff_eq] at h
    have hpack := Fmt.pack_fields hx
    rw [h.1, h.2] at hpack
    exact hpack.symm

/-- An infinity is the infinity of its sign. -/
theorem Fmt.eq_inf_iff (hx : x < 2 ^ (1 + f.ebits + f.fbits)) (neg : Bool) :
    x = f.inf neg ↔ f.isInf x = true ∧ f.sign x = neg := by
  constructor
  · rintro rfl
    have hexp : f.exp (f.inf neg) = f.expOnes := Fmt.exp_pack neg Fmt.expOnes_lt (Nat.two_pow_pos _)
    have hfrac : f.frac (f.inf neg) = 0 := Fmt.frac_pack neg (Nat.two_pow_pos _)
    exact ⟨by simp [Fmt.isInf, hexp, hfrac], Fmt.sign_pack neg Fmt.expOnes_lt (Nat.two_pow_pos _)⟩
  · rintro ⟨h, rfl⟩
    simp only [Fmt.isInf, Bool.and_eq_true, beq_iff_eq] at h
    have hpack := Fmt.pack_fields hx
    rw [h.1, h.2] at hpack
    exact hpack.symm

/-! ## The order of patterns and values (R231) -/

/-- The value of a pattern is that of its bits below the sign, with the sign. -/
theorem Fmt.rat_eq_rat_mod (x : ℕ) :
    f.rat x = (if f.sign x then -1 else 1) * f.rat (x % 2 ^ (f.ebits + f.fbits)) := by
  have hexp : f.exp (x % 2 ^ (f.ebits + f.fbits)) = f.exp x := by
    rw [Fmt.exp, Fmt.exp, add_comm f.ebits, pow_add, Nat.mod_mul_right_div_self, Nat.mod_mod]
  have hfrac : f.frac (x % 2 ^ (f.ebits + f.fbits)) = f.frac x :=
    Nat.mod_mod_of_dvd x (pow_dvd_pow 2 (Nat.le_add_left _ _))
  rw [Fmt.rat_of_lt (Nat.mod_lt x (Nat.two_pow_pos _)), f.rat_eq]
  simp only [Fmt.mag, Fmt.scale, hexp, hfrac]

/-- Patterns are ordered by their keys as by their values, a zero being equal to the other zero. -/
theorem Fmt.key_lt_key_iff (a b : ℕ) : f.key a < f.key b ↔ f.rat a < f.rat b := by
  have hi : a % 2 ^ (f.ebits + f.fbits) < 2 ^ (f.ebits + f.fbits) := Nat.mod_lt a (Nat.two_pow_pos _)
  have hj : b % 2 ^ (f.ebits + f.fbits) < 2 ^ (f.ebits + f.fbits) := Nat.mod_lt b (Nat.two_pow_pos _)
  rw [f.rat_eq_rat_mod a, f.rat_eq_rat_mod b, Fmt.key, Fmt.key]
  generalize a % 2 ^ (f.ebits + f.fbits) = i, b % 2 ^ (f.ebits + f.fbits) = j at *
  have hzero : f.rat 0 = 0 := (f.rat_eq_zero_iff 0).2 (by simp [Fmt.mag, Fmt.exp, Fmt.frac])
  have hposi : 0 < f.rat i ↔ 0 < i := hzero ▸ f.rat_lt_rat (Nat.two_pow_pos _) hi
  have hposj : 0 < f.rat j ↔ 0 < j := hzero ▸ f.rat_lt_rat (Nat.two_pow_pos _) hj
  have hnni : 0 ≤ f.rat i := hzero ▸ (f.rat_le_rat (Nat.two_pow_pos _) hi).2 (Nat.zero_le i)
  have hnnj : 0 ≤ f.rat j := hzero ▸ (f.rat_le_rat (Nat.two_pow_pos _) hj).2 (Nat.zero_le j)
  cases f.sign a <;> cases f.sign b <;> simp only [Bool.false_eq_true, if_true, if_false, one_mul, neg_one_mul]
  case false.false => exact_mod_cast (f.rat_lt_rat hi hj).symm
  case false.true => exact iff_of_false (by omega) (by linarith)
  case true.false =>
    constructor
    · intro h
      rcases (by omega : 0 < i ∨ 0 < j) with h | h
      · linarith [hposi.2 h]
      · linarith [hposj.2 h]
    · intro h
      by_contra hle
      obtain ⟨rfl, rfl⟩ : i = 0 ∧ j = 0 := by omega
      simp [hzero] at h
  case true.true =>
    rw [neg_lt_neg_iff, neg_lt_neg_iff]
    exact_mod_cast (f.rat_lt_rat hj hi).symm

/-- Of the patterns that are not NaNs the infinities have the largest magnitude bits. -/
theorem Fmt.mod_le_of_not_isNaN (h : f.isNaN x = false) :
    x % 2 ^ (f.ebits + f.fbits) ≤ f.expOnes * 2 ^ f.fbits ∧
      (x % 2 ^ (f.ebits + f.fbits) = f.expOnes * 2 ^ f.fbits ↔ f.isInf x = true) := by
  have hexp : f.exp x < 2 ^ f.ebits := Nat.mod_lt _ (Nat.two_pow_pos _)
  have hfrac : f.frac x < 2 ^ f.fbits := Nat.mod_lt _ (Nat.two_pow_pos _)
  rw [Fmt.mod_eq_fields]
  by_cases he : f.exp x = f.expOnes
  · have hzero : f.frac x = 0 := by simpa [Fmt.isNaN, he] using h
    simp [Fmt.isInf, he, hzero]
  · have hle : f.exp x + 1 ≤ f.expOnes := by unfold Fmt.expOnes at he ⊢; omega
    have hlt : f.exp x * 2 ^ f.fbits + f.frac x < f.expOnes * 2 ^ f.fbits := by
      have := Nat.mul_le_mul_right (2 ^ f.fbits) hle
      rw [add_one_mul] at this
      omega
    exact ⟨hlt.le, iff_of_false hlt.ne (by simp [Fmt.isInf, he])⟩

/-- The keys order the patterns as their values, infinities included. -/
theorem Fmt.valueLt_iff (he : 0 < f.ebits) (ha : f.isNaN a = false) (hb : f.isNaN b = false) :
    f.valueLt a b ↔ f.key a < f.key b := by
  obtain ⟨hale, hainf⟩ := Fmt.mod_le_of_not_isNaN ha
  obtain ⟨hble, hbinf⟩ := Fmt.mod_le_of_not_isNaN hb
  have hpos : 0 < f.expOnes * 2 ^ f.fbits := Nat.mul_pos (Nat.pos_of_ne_zero (f.expOnes_ne_zero he)) (Nat.two_pow_pos _)
  unfold Fmt.valueLt
  split_ifs with hia hib
  · rw [← hainf] at hia
    rw [← hbinf, Fmt.key, Fmt.key, hia]
    generalize b % 2 ^ (f.ebits + f.fbits) = j, f.expOnes * 2 ^ f.fbits = top at *
    cases f.sign a <;> cases f.sign b <;> simp <;> omega
  · rw [← hainf] at hia
    rw [← hbinf] at hib
    rw [Fmt.key, Fmt.key, hib]
    generalize a % 2 ^ (f.ebits + f.fbits) = i, f.expOnes * 2 ^ f.fbits = top at *
    cases f.sign a <;> cases f.sign b <;> simp <;> omega
  · exact (f.key_lt_key_iff a b).symm

theorem Fmt.rel_eq_un_iff (a b : ℕ) : f.rel a b = .un ↔ f.isNaN a = true ∨ f.isNaN b = true := by
  rw [← Bool.or_eq_true, Fmt.rel]
  split_ifs with h <;> simp [h]

/-- The relation is that of the values. -/
theorem Fmt.rel_eq_lt_iff_valueLt (he : 0 < f.ebits) (ha : f.isNaN a = false) (hb : f.isNaN b = false) :
    f.rel a b = .lt ↔ f.valueLt a b := by
  rw [Fmt.rel_eq_lt_iff ha hb, Fmt.valueLt_iff he ha hb]

theorem Fmt.rel_eq_gt_iff_valueLt (he : 0 < f.ebits) (ha : f.isNaN a = false) (hb : f.isNaN b = false) :
    f.rel a b = .gt ↔ f.valueLt b a := by
  rw [Fmt.rel_eq_gt_iff ha hb, Fmt.valueLt_iff he hb ha]

/-- Settles O40: in every format with exponent bits the relation compares the keys, which order the patterns as their
values. -/
theorem relationOfValues : Obligations.RelationOfValues := by
  intro f hf a b _ _
  have he : 0 < f.ebits := by
    simp only [List.mem_cons, List.not_mem_nil, or_false] at hf
    rcases hf with rfl | rfl | rfl | rfl <;> decide
  exact ⟨f.rel_eq_un_iff a b, fun ha hb => ⟨Fmt.rel_eq_lt_iff_valueLt he ha hb, Fmt.rel_eq_gt_iff_valueLt he ha hb⟩⟩

/-! ## VCOMISBF16 (R232) -/

/-- The compare completes with the status flags of the relation. -/
theorem vcomisbf16_done {o : RegRm} {s : State} {x : Zmm} (hx : Runs (.vcomisbf16 o) s x) {r : Rel} {zf pf cf : Bool}
    (hr : bf16.rel (bf16.daz (lane 16 0 (s.vec o.reg)).toNat) (bf16.daz (lane 16 0 x).toNat) = r)
    (hb : r.comisStatus = statusBits false false zf false pf cf) :
    StatusDone (.vcomisbf16 o) s 0 false false zf false pf cf := by
  have h := execCompare_done (cmp := comisBf16) hx rfl rfl (fun h => nomatch h) (by rw [← hb, ← hr]; rfl)
  simpa [comisBf16] using h

/-- Settles O39: the relation of the two low elements is that of their values, and each relation has its flags. -/
theorem vcomisbf16Result : Obligations.Vcomisbf16Result := by
  refine ⟨rfl, rfl, rfl, rfl, rfl, rfl, ?_⟩
  intro o s x hx a b
  refine ⟨fun hnan => ?_, fun ha hb => ⟨fun hgt => ?_, fun hlt => ?_, fun hgt hlt => ?_⟩⟩
  · exact vcomisbf16_done hx ((bf16.rel_eq_un_iff a b).2 hnan) rfl
  · exact vcomisbf16_done hx ((Fmt.rel_eq_gt_iff_valueLt bf16_ebits_pos ha hb).2 hgt) rfl
  · exact vcomisbf16_done hx ((Fmt.rel_eq_lt_iff_valueLt bf16_ebits_pos ha hb).2 hlt) rfl
  · refine vcomisbf16_done hx (r := .eq) ?_ rfl
    rw [← Fmt.rel_eq_gt_iff_valueLt bf16_ebits_pos ha hb] at hgt
    rw [← Fmt.rel_eq_lt_iff_valueLt bf16_ebits_pos ha hb] at hlt
    have hun : bf16.rel a b ≠ .un := by simp [Fmt.rel_eq_un_iff, ha, hb]
    cases hrel : bf16.rel a b
    case eq => rfl
    case un => exact absurd hrel hun
    case lt => exact absurd hrel hlt
    case gt => exact absurd hrel hgt

/-! ## Predicates and classes (R231, R233, R240) -/

/-- Settles O38: the model's table and the columns of R240 agree for every predicate on each relation. -/
theorem predicateTable : Obligations.PredicateTable := by
  intro p r
  cases r <;> revert p <;> decide

/-- The zeros and the infinities are one pattern for each sign. -/
theorem bf16_special_patterns (hx : x < 2 ^ 16) :
    (bf16.isZero x && !bf16.sign x) = (x == 0x0000) ∧ (bf16.isZero x && bf16.sign x) = (x == 0x8000) ∧
      (bf16.isInf x && !bf16.sign x) = (x == 0x7F80) ∧ (bf16.isInf x && bf16.sign x) = (x == 0xFF80) := by
  have hzero := Fmt.eq_zero_iff (f := bf16) hx
  have hinf := Fmt.eq_inf_iff (f := bf16) hx
  refine ⟨?_, ?_, ?_, ?_⟩ <;> rw [Bool.eq_iff_iff, Bool.and_eq_true, beq_iff_eq]
  · rw [Bool.not_eq_true']
    exact (hzero false).symm
  · exact (hzero true).symm
  · rw [Bool.not_eq_true']
    exact (hinf false).symm
  · exact (hinf true).symm

/-- No operand is denormal after DAZ. -/
theorem Fmt.isDenormal_daz (x : ℕ) : f.isDenormal (f.daz x) = false := by
  unfold Fmt.daz
  split
  next => simp [Fmt.isDenormal]
  next h => exact Bool.eq_false_iff.2 h

/-- The class test of imm8, category by category. -/
theorem fpclassBf16_eq (imm : BitVec 8) (hx : x < 2 ^ 16) :
    fpclassBf16 imm x =
      let y := bf16.daz x
      (imm.getLsbD 0 && (bf16.isNaN y && y.testBit 6)) || (imm.getLsbD 1 && y == 0x0000) ||
      (imm.getLsbD 2 && y == 0x8000) || (imm.getLsbD 3 && y == 0x7F80) || (imm.getLsbD 4 && y == 0xFF80) ||
      (imm.getLsbD 6 && (bf16.isFinite y && y.testBit 15 && !bf16.isZero y)) ||
      (imm.getLsbD 7 && (bf16.isNaN y && !y.testBit 6)) := by
  have hy : bf16.daz x < 2 ^ 16 := Fmt.daz_lt (f := bf16) hx
  have hden : bf16.isDenormal (bf16.daz x) = false := bf16.isDenormal_daz x
  simp only [fpclassBf16]
  generalize bf16.daz x = y at *
  obtain ⟨hposzero, hnegzero, hposinf, hneginf⟩ := bf16_special_patterns hy
  have hneg : (imm.getLsbD 6 && bf16.sign y && !bf16.isZero y && !bf16.isInf y && !bf16.isNaN y) =
      (imm.getLsbD 6 && (bf16.isFinite y && y.testBit 15 && !bf16.isZero y)) := by
    have hfin : bf16.isFinite y = (!bf16.isInf y && !bf16.isNaN y) := by
      rw [Bool.eq_iff_iff, Fmt.isFinite_iff (f := bf16) hy]
      simp
    rw [hfin, show y.testBit 15 = bf16.sign y from rfl]
    ac_rfl
  simp only [Bool.and_assoc (imm.getLsbD _), hposzero, hnegzero, hposinf, hneginf, hden, Bool.and_false, Bool.or_false]
  rw [← Bool.and_assoc, ← Bool.and_assoc, ← Bool.and_assoc, hneg]
  rfl

/-- An opmask form names its destination by three bits. -/
theorem kreg_setWidth (d : KReg) : (d.setWidth 5).setWidth 3 = d := by simp

theorem words_le (vl : VL) : vl.bits / 16 ≤ 64 := by cases vl <;> decide

/-- Settles O37: both forms complete with the bits of their test. -/
theorem opmaskResults : Obligations.OpmaskResults := by
  refine ⟨fun vl o imm s x hx => ?_, fun vl o imm s x hx => ?_⟩
  · rw [← kreg_setWidth o.dest]
    exact execMask_done (bitAt := cmpBit imm) hx rfl (words_le vl)
  · rw [← kreg_setWidth o.dest]
    simp only [← fpclassBf16_eq imm (lane 16 _ x).isLt]
    exact execMask_done (bitAt := fpclassBit imm) hx rfl (words_le vl)

end Sys2Proof.Machine
end

section
/-! PROOFS. Rounding to the multiples of a power of two and what is left of the value: both are exact in BF16, and the
statement on VRNDSCALEBF16 and VREDUCEBF16 (spec/42_bf16_misc.md R237, R238). -/

namespace Sys2Proof.Machine

variable {f : Fmt} {x : ℕ}

/-! ## Exact results (R201) -/

/-- A value that fits in the significand and the normal range is its own rounded result. -/
theorem FlushedRound.exact {v : ℚ} {r : ℕ} {m e : ℤ} (h : FlushedRound f (v : ℝ) r) (hv : v = m * 2 ^ e)
    (hm : |m| < 2 ^ (f.fbits + 1)) (hlo : 2 ^ (1 - (f.bias : ℤ)) ≤ |v|) (hhi : |v| < 2 ^ (1 + (f.bias : ℤ))) :
    f.isFinite r = true ∧ f.rat r = v := by
  obtain ⟨q, neg, hround, -, -, -, hmid⟩ := h
  have hq : q = v := by
    rw [hv] at hround ⊢
    exact RoundedTo.eq_of_exact hm (by simpa using hround)
  obtain ⟨hfin, -, hval⟩ := hmid (by rwa [hq]) (by rwa [hq])
  exact ⟨hfin, hval.trans hq⟩

theorem Fmt.isFinite_iff_exp : f.isFinite x = true ↔ x < 2 ^ (1 + f.ebits + f.fbits) ∧ f.exp x ≠ f.expOnes := by
  simp [Fmt.isFinite]

@[simp] theorem Fmt.rat_zero (neg : Bool) : f.rat (f.zero neg) = 0 := by simp [Fmt.rat_eq_zero_iff]

theorem Fmt.isFinite_zero (he : 0 < f.ebits) (neg : Bool) : f.isFinite (f.zero neg) = true :=
  Fmt.isFinite_iff_exp.2 ⟨Fmt.zero_lt neg, by simpa using (f.expOnes_ne_zero he).symm⟩

theorem Fmt.isFinite_daz (h : f.isFinite x = true) : f.isFinite (f.daz x) = true := by
  obtain ⟨hlt, hexp⟩ := Fmt.isFinite_iff_exp.1 h
  exact Fmt.isFinite_iff_exp.2 ⟨Fmt.daz_lt hlt, by rwa [Fmt.exp_daz]⟩

/-- The numbers that are zero after DAZ are those with exponent 0. -/
theorem Fmt.rat_daz_eq_zero_iff (x : ℕ) : f.rat (f.daz x) = 0 ↔ f.exp x = 0 := by
  rw [← Fmt.isZero_daz_iff, Fmt.isZero_iff_mag, Fmt.rat_eq_zero_iff]

/-- The range of the normal numbers. -/
theorem Fmt.normal_range (he : 0 < f.ebits) (hx : f.isFinite x = true) (h : f.exp x ≠ 0) :
    (2 : ℚ) ^ (1 - (f.bias : ℤ)) ≤ |f.rat x| ∧ |f.rat x| < 2 ^ (1 + (f.bias : ℤ)) := by
  obtain ⟨hlo, hhi⟩ := Fmt.normal_binade h
  have hones := f.expOnes_eq he
  have hexp : f.exp x < 2 ^ f.ebits := Nat.mod_lt _ (Nat.two_pow_pos _)
  have hne := (Fmt.isFinite_iff_exp.1 hx).2
  have hlt : f.exp x < f.expOnes := by unfold Fmt.expOnes at hne ⊢; omega
  exact ⟨(zpow_le_zpow_right₀ one_le_two (by omega)).trans hlo,
    hhi.trans_le (zpow_le_zpow_right₀ one_le_two (by omega))⟩

/-! ## The nearest multiple (R237, R238) -/

/-- The nearest multiple of `2^-M`, the even one in a tie. -/
def nearestMultiple (M : ℕ) (v : ℚ) : ℚ := RoundMode.rne.toIntegral (2 ^ M * v) / 2 ^ M

/-- Scaling by `2^M` moves the exponent. -/
theorem two_pow_mul_signedValue (M : ℕ) (neg : Bool) (m : ℕ) (e : ℤ) :
    2 ^ M * signedValue neg m e = (if neg then -1 else 1) * ((m : ℚ) * 2 ^ (e + M)) := by
  rw [signedValue, zpow_add₀ two_ne_zero, zpow_natCast]
  ring

/-- A value whose last bit is not below `2^-M` is a multiple. -/
theorem scaledInteger_none {M : ℕ} {neg : Bool} {m : ℕ} {e : ℤ} (he : 0 ≤ e + M) :
    scaledInteger M neg m e = none ∧ nearestMultiple M (signedValue neg m e) = signedValue neg m e := by
  refine ⟨if_pos he, ?_⟩
  have hint : ∃ z : ℤ, 2 ^ M * signedValue neg m e = z := by
    rw [two_pow_mul_signedValue, signed_eq_intCast_iff]
    exact ⟨_, by rw [mul_zpow_of_nonneg m he, Int.cast_natCast]⟩
  rw [nearestMultiple, (RoundMode.toIntegral_eq_iff .rne _).2 hint, mul_div_cancel_left₀ _ (by positivity)]

/-- Otherwise the magnitude is shifted to units of `2^-M` and rounded. -/
theorem scaledInteger_some {M : ℕ} {neg : Bool} {m : ℕ} {e : ℤ} (he : e + M < 0) :
    scaledInteger M neg m e = some (roundShift .rne neg m (-(e + M)).toNat) ∧
      nearestMultiple M (signedValue neg m e) =
        signedValue neg (roundShift .rne neg m (-(e + M)).toNat) (-(M : ℤ)) := by
  refine ⟨if_neg (not_le.2 he), ?_⟩
  rw [nearestMultiple, two_pow_mul_signedValue, mul_zpow_of_neg m he, toIntegral_signed_div, signedValue, zpow_neg,
    zpow_natCast]
  cases neg <;> simp [div_eq_mul_inv]

/-- What rounding to nearest takes from a magnitude or adds to it is at most the magnitude, and a magnitude below one half
is taken whole. -/
theorem roundShift_rne_rest (neg : Bool) (m sh : ℕ) :
    |(m : ℤ) - roundShift .rne neg m sh * 2 ^ sh| ≤ m ∧ (roundShift .rne neg m sh = 0 ∨ 2 ^ sh ≤ 2 * m) := by
  have hdm := Nat.div_add_mod m (2 ^ sh)
  have hlt := Nat.mod_lt m (Nat.two_pow_pos sh)
  rw [roundShift_rne]
  generalize m / 2 ^ sh = d, m % 2 ^ sh = r at *
  subst hdm
  split
  next hup =>
    have hrest : ((2 ^ sh * d + r : ℕ) : ℤ) - (d + 1 : ℕ) * 2 ^ sh = r - (2 ^ sh : ℕ) := by push_cast; ring
    rw [hrest]
    generalize 2 ^ sh * d = c
    exact ⟨abs_le.2 ⟨by omega, by omega⟩, .inr (by omega)⟩
  next hdown =>
    have hrest : ((2 ^ sh * d + r : ℕ) : ℤ) - (d : ℕ) * 2 ^ sh = r := by push_cast; ring
    rw [hrest]
    refine ⟨abs_le.2 ⟨by omega, by omega⟩, ?_⟩
    rcases Nat.eq_zero_or_pos d with h | h
    · exact .inl h
    · have := Nat.le_mul_of_pos_right (2 ^ sh) h
      exact .inr (by omega)

theorem roundShift_rne_le (neg : Bool) (m : ℕ) {sh : ℕ} (hsh : sh ≠ 0) : roundShift .rne neg m sh ≤ m / 2 + 1 := by
  have hdiv : m / 2 ^ sh ≤ m / 2 := Nat.div_le_div_left (Nat.le_self_pow hsh 2) two_pos
  rcases roundShift_eq_or .rne neg m sh with h | h <;> omega

/-! ## VRNDSCALEBF16 and VREDUCEBF16 on a finite source -/

theorem bf16_scale_of_exp_zero (h : bf16.exp x = 0) : bf16.scale x = -133 := by
  simp only [Fmt.scale, h, if_true]
  rfl

/-- A source that is a multiple already is a normal number. -/
theorem exp_ne_zero_of_scale {M : ℕ} (hM : M < 16) (h : 0 ≤ bf16.scale (bf16.daz x) + M) : bf16.exp x ≠ 0 := by
  intro hexp
  rw [bf16_scale_of_exp_zero (by rwa [Fmt.exp_daz])] at h
  omega

/-- A count of less than 256 units of `2^-M` is a BF16 number. -/
theorem bf16_roundFtz_multiple {M q : ℕ} (hM : M < 16) (hq : q < 256) (neg : Bool) :
    bf16.isFinite (bf16.roundFtz (.fin neg q (-(M : ℤ)))) = true ∧
      bf16.rat (bf16.roundFtz (.fin neg q (-(M : ℤ)))) = signedValue neg q (-(M : ℤ)) ∧
      (q = 0 → bf16.roundFtz (.fin neg q (-(M : ℤ))) = bf16.zero neg) := by
  rcases Nat.eq_zero_or_pos q with rfl | hpos
  · have hzero : bf16.roundFtz (.fin neg 0 (-(M : ℤ))) = bf16.zero neg := by simp [Fmt.roundFtz]
    rw [hzero]
    exact ⟨Fmt.isFinite_zero bf16_ebits_pos neg, by simp [signedValue], fun _ => rfl⟩
  · obtain ⟨-, -, hmid⟩ := Fmt.roundFtz_exact bf16_ebits_pos bf16_fbits_pos neg (-(M : ℤ)) hpos.ne' hq
    have hbias : bf16.bias = 127 := rfl
    rw [abs_signedValue, hbias] at hmid
    have hone : (1 : ℚ) ≤ q := by exact_mod_cast hpos
    have hbound : (q : ℚ) < 2 ^ (8 : ℤ) := by exact_mod_cast hq
    have hlow : (2 : ℚ) ^ (1 - 127 : ℤ) ≤ q * 2 ^ (-(M : ℤ)) :=
      (zpow_le_zpow_right₀ one_le_two (by omega)).trans (le_mul_of_one_le_left (by positivity) hone)
    have hhigh : (q : ℚ) * 2 ^ (-(M : ℤ)) < 2 ^ (1 + 127 : ℤ) := by
      calc (q : ℚ) * 2 ^ (-(M : ℤ)) ≤ q * 2 ^ (0 : ℤ) :=
            mul_le_mul_of_nonneg_left (zpow_le_zpow_right₀ one_le_two (by omega)) (by positivity)
        _ < 2 ^ (8 : ℤ) := by rwa [zpow_zero, mul_one]
        _ ≤ 2 ^ (1 + 127 : ℤ) := zpow_le_zpow_right₀ one_le_two (by norm_num)
    obtain ⟨hfin, -, hval⟩ := hmid hlow hhigh
    exact ⟨hfin, hval, fun h => absurd h hpos.ne'⟩

/-- The difference from the nearest multiple fits in the significand of the value and in the normal range: it is the value
itself, or the value is so large that the weight of its last bit is normal. -/
theorem rest_representable {M m : ℕ} {e : ℤ} {neg : Bool} {v : ℚ} (hv : signedValue neg m e = v) (hM : M < 16)
    (hm : m < 256) (he : e + M < 0) (hlo : (2 : ℚ) ^ (-126 : ℤ) ≤ |v|) (hne : v - nearestMultiple M v ≠ 0) :
    ∃ k : ℤ, v - nearestMultiple M v = k * 2 ^ e ∧ |k| < 256 ∧ (2 : ℚ) ^ (-126 : ℤ) ≤ |v - nearestMultiple M v| ∧
      |v - nearestMultiple M v| ≤ |v| := by
  obtain ⟨sh, hsh⟩ : ∃ sh : ℕ, (-(e + M)).toNat = sh := ⟨_, rfl⟩
  obtain ⟨hrest, hsmall⟩ := roundShift_rne_rest neg m sh
  have hmult : nearestMultiple M v = signedValue neg (roundShift .rne neg m sh * 2 ^ sh) e := by
    rw [← hv, (scaledInteger_some he).2, hsh, ← signedValue_align (g := e) (by omega),
      show (-(M : ℤ) - e).toNat = sh by omega]
  generalize roundShift .rne neg m sh = q at *
  obtain ⟨k, hk, habs⟩ : ∃ k : ℤ, v - nearestMultiple M v = k * 2 ^ e ∧ |k| = |(m : ℤ) - q * 2 ^ sh| := by
    refine ⟨if neg then -((m : ℤ) - q * 2 ^ sh) else m - q * 2 ^ sh, ?_, by cases neg <;> simp [abs_sub_comm]⟩
    rw [hmult, ← hv]
    cases neg <;> simp [signedValue] <;> ring
  have hkm : (|k| : ℚ) ≤ m := by exact_mod_cast habs ▸ hrest
  have hsize : |v - nearestMultiple M v| = (|k| : ℚ) * 2 ^ e := by
    rw [hk, abs_mul, abs_of_pos (a := (2 : ℚ) ^ e) (by positivity)]
  refine ⟨k, hk, by omega, ?_, ?_⟩
  · rcases hsmall with rfl | hlarge
    · simpa [hmult, signedValue] using hlo
    · have hbits : sh < 9 := (Nat.pow_lt_pow_iff_right one_lt_two).1 (by omega)
      have hone : (1 : ℚ) ≤ |(k : ℚ)| := by
        exact_mod_cast Int.one_le_abs fun h => hne (by rw [hk, h, Int.cast_zero, zero_mul])
      rw [hsize]
      exact (zpow_le_zpow_right₀ one_le_two (by omega)).trans (le_mul_of_one_le_left (by positivity) hone)
  · rw [hsize, ← hv, abs_signedValue]
    exact mul_le_mul_of_nonneg_right hkm (by positivity)

theorem nearestMultiple_zero (M : ℕ) : nearestMultiple M 0 = 0 := by
  have hzero : RoundMode.rne.toIntegral 0 = 0 := RoundMode.toIntegral_intCast .rne 0
  simp [nearestMultiple, hzero]

/-- The rounded difference of a finite source from its nearest multiple is the difference. -/
theorem FlushedRound.rest_exact {M r : ℕ} (hM : M < 16) (hx : bf16.isFinite x = true)
    (hscale : bf16.scale (bf16.daz x) + M < 0) {d : ℚ}
    (hd : bf16.rat (bf16.daz x) - nearestMultiple M (bf16.rat (bf16.daz x)) = d) (hne : d ≠ 0)
    (hround : FlushedRound bf16 (d : ℝ) r) : bf16.isFinite r = true ∧ bf16.rat r = d := by
  subst hd
  have hexp : bf16.exp x ≠ 0 := fun h =>
    hne (by rw [(bf16.rat_daz_eq_zero_iff x).2 h, nearestMultiple_zero, sub_zero])
  obtain ⟨hlo, hhi⟩ := Fmt.normal_range bf16_ebits_pos hx hexp
  rw [← Fmt.daz_of_exp_ne_zero hexp] at hlo hhi
  obtain ⟨k, hk, hbits, hdlo, hdhi⟩ :=
    rest_representable (Fmt.signedValue_daz x) hM (bf16_mag_lt _) hscale hlo hne
  exact hround.exact hk hbits hdlo (hdhi.trans_lt hhi)

/-- VRNDSCALEBF16 gives the nearest multiple, and a zero keeps the sign of the source. -/
theorem rndscaleBf16_finite (imm : BitVec 8) (hx : bf16.isFinite x = true) :
    bf16.isFinite (rndscaleBf16 imm x) = true ∧
      bf16.rat (rndscaleBf16 imm x) = nearestMultiple (imm.toNat / 16) (bf16.rat (bf16.daz x)) ∧
      (nearestMultiple (imm.toNat / 16) (bf16.rat (bf16.daz x)) = 0 →
        rndscaleBf16 imm x = bf16.zero (bf16.sign x)) := by
  have hM : imm.toNat / 16 < 16 := by have := imm.isLt; omega
  have hmag : bf16.mag (bf16.daz x) < 256 := bf16_mag_lt _
  have hv := Fmt.signedValue_daz (f := bf16) x
  simp only [rndscaleBf16, Fmt.isNaN_of_isFinite hx, Fmt.dazValue_fin bf16_ebits_pos (Fmt.isInf_of_isFinite hx),
    Bool.false_eq_true, if_false]
  generalize imm.toNat / 16 = M at *
  rcases le_or_gt 0 (bf16.scale (bf16.daz x) + M) with hscale | hscale
  · obtain ⟨hnone, hval⟩ := scaledInteger_none (neg := bf16.sign x) (m := bf16.mag (bf16.daz x)) hscale
    have hexp := exp_ne_zero_of_scale hM hscale
    rw [hv] at hval
    simp only [hnone, hval]
    exact ⟨Fmt.isFinite_daz hx, trivial, fun h => absurd h (mt (bf16.rat_daz_eq_zero_iff x).1 hexp)⟩
  · obtain ⟨hsome, hval⟩ := scaledInteger_some (neg := bf16.sign x) (m := bf16.mag (bf16.daz x)) hscale
    have hle := roundShift_rne_le (bf16.sign x) (bf16.mag (bf16.daz x)) (sh := (-(bf16.scale (bf16.daz x) + M)).toNat)
      (by omega)
    rw [hv] at hval
    simp only [hsome, hval]
    generalize roundShift .rne (bf16.sign x) (bf16.mag (bf16.daz x)) _ = q at *
    obtain ⟨hfin, hrat, hzero⟩ := bf16_roundFtz_multiple hM (q := q) (by omega) (bf16.sign x)
    exact ⟨hfin, hrat, fun h => hzero ((signedValue_eq_zero_iff _ _ _).1 h)⟩

/-- VREDUCEBF16 gives the difference from the nearest multiple, a zero as +0. -/
theorem reduceBf16_finite (imm : BitVec 8) (hx : bf16.isFinite x = true) :
    bf16.isFinite (reduceBf16 imm x) = true ∧
      bf16.rat (reduceBf16 imm x) =
        bf16.rat (bf16.daz x) - nearestMultiple (imm.toNat / 16) (bf16.rat (bf16.daz x)) ∧
      (bf16.rat (bf16.daz x) - nearestMultiple (imm.toNat / 16) (bf16.rat (bf16.daz x)) = 0 → reduceBf16 imm x = 0) := by
  have hM : imm.toNat / 16 < 16 := by have := imm.isLt; omega
  have hv := Fmt.signedValue_daz (f := bf16) x
  have hzero : bf16.isFinite (bf16.zero false) = true ∧ bf16.rat (bf16.zero false) = 0 :=
    ⟨Fmt.isFinite_zero bf16_ebits_pos false, Fmt.rat_zero false⟩
  simp only [reduceBf16, Fmt.isNaN_of_isFinite hx, Fmt.dazValue_fin bf16_ebits_pos (Fmt.isInf_of_isFinite hx),
    Bool.false_eq_true, if_false]
  generalize imm.toNat / 16 = M at *
  rcases le_or_gt 0 (bf16.scale (bf16.daz x) + M) with hscale | hscale
  · obtain ⟨hnone, hval⟩ := scaledInteger_none (neg := bf16.sign x) (m := bf16.mag (bf16.daz x)) hscale
    rw [hv] at hval
    simp only [hnone, hval, sub_self]
    exact ⟨hzero.1, hzero.2, fun _ => rfl⟩
  · obtain ⟨hsome, hval⟩ := scaledInteger_some (neg := bf16.sign x) (m := bf16.mag (bf16.daz x)) hscale
    obtain ⟨n, m, e, hsum, hdiff, -⟩ := addFinite_spec (bf16.sign x) (bf16.mag (bf16.daz x)) (bf16.scale (bf16.daz x))
      (!bf16.sign x) (roundShift .rne (bf16.sign x) (bf16.mag (bf16.daz x)) (-(bf16.scale (bf16.daz x) + M)).toNat)
      (-(M : ℤ))
    rw [← Bool.xor_true, signedValue_xor, if_pos rfl, ← hval, hv, ← sub_eq_add_neg] at hdiff
    simp only [hsome, hsum]
    obtain ⟨hround, -⟩ := Fmt.roundFtz_value bf16_ebits_pos bf16_fbits_pos n hdiff
    generalize hd : bf16.rat (bf16.daz x) - nearestMultiple M (bf16.rat (bf16.daz x)) = d at *
    split
    next hm => exact ⟨hzero.1, by rw [hzero.2, ← hdiff, (signedValue_eq_zero_iff n m e).2 hm], fun _ => rfl⟩
    next hm =>
      have hne : d ≠ 0 := by rwa [← hdiff, Ne, signedValue_eq_zero_iff]
      obtain ⟨hfin, hrat⟩ := (hround hne).rest_exact hM hx hscale hd hne
      exact ⟨hfin, hrat, fun h => absurd h hne⟩

/-- Settles O42: a NaN and an infinity are special operands; a finite source gives the nearest multiple and the rest. -/
theorem roundAndReduceExact : Obligations.RoundAndReduceExact := by
  intro imm x hx
  refine ⟨fun hnan => ⟨if_pos hnan, if_pos hnan⟩, fun hinf => ?_, fun hfin => ?_⟩
  · have hself : bf16.inf (bf16.sign x) = x := ((Fmt.eq_inf_iff (f := bf16) hx _).2 ⟨hinf, rfl⟩).symm
    simp only [rndscaleBf16, reduceBf16, Fmt.isNaN_eq_false_of_isInf hinf, Fmt.dazValue_inf bf16_ebits_pos hinf,
      Bool.false_eq_true, if_false, hself, true_and]
    rfl
  · intro v scale t
    obtain ⟨hrfin, hrval, hrzero⟩ := rndscaleBf16_finite imm hfin
    obtain ⟨hdfin, hdval, hdzero⟩ := reduceBf16_finite imm hfin
    exact ⟨hrfin, hrval, hrzero, hdfin, hdval, hdzero⟩

end Sys2Proof.Machine
end

section
/-! PROOFS. The error of rounding to a given number of bits, powers of two as patterns, and the integer form of the error
bounds of the approximations (spec/41_bf16_arith.md R201, spec/42_bf16_misc.md R236, R239). -/

namespace Sys2Proof.Machine

variable {f : Fmt} {x : ℕ}

/-! ## The error of rounding (R201) -/

/-- The neighbours of a `p`-bit significand have `p` bits too, one of them perhaps with the next exponent. -/
theorem exists_neighbour {p : ℕ} (hp : 2 ≤ p) {m d : ℤ} (hm : |m| < 2 ^ p) (hd : |d| = 1) (e : ℤ) :
    ∃ m' e' : ℤ, |m'| < 2 ^ p ∧ (m' : ℝ) * 2 ^ e' = m * 2 ^ e + d * 2 ^ e := by
  have hhalf : (2 : ℤ) ^ p = 2 * 2 ^ (p - 1) := by rw [← pow_succ', Nat.sub_add_cancel (by omega)]
  have hle : |m + d| ≤ 2 ^ p := (abs_add_le m d).trans (by omega)
  rcases hle.lt_or_eq with hlt | heq
  · exact ⟨m + d, e, hlt, by push_cast; ring⟩
  · obtain ⟨c, hc⟩ : (2 : ℤ) ∣ m + d := (abs_dvd_abs 2 (m + d)).1 (by rw [heq, hhalf]; exact Dvd.intro _ rfl)
    have hpos : (0 : ℤ) < 2 ^ (p - 1) := by positivity
    refine ⟨c, e + 1, ?_, ?_⟩
    · rw [hc, abs_mul, hhalf, abs_two] at heq
      omega
    · have hcast : (m : ℝ) + d = 2 * c := by exact_mod_cast hc
      rw [← add_mul, hcast, zpow_add_one₀ two_ne_zero]
      ring

/-- What is not nearer to a unit on either side than to zero is within half a unit. -/
theorem abs_le_half {t u : ℝ} (hu : 0 < u) (hup : |t| ≤ |t - u|) (hdown : |t| ≤ |t + u|) : |t| ≤ u / 2 := by
  rw [← sq_le_sq] at hup hdown
  exact abs_le.2 ⟨by nlinarith, by nlinarith⟩

/-- Rounding to `p` bits moves a value by at most the part `2^-p` of the result. -/
theorem RoundedTo.abs_sub_le {p : ℕ} {v : ℝ} {q : ℚ} (hp : 2 ≤ p) (h : RoundedTo p v q) :
    |v - (q : ℝ)| ≤ |(q : ℝ)| / 2 ^ p := by
  obtain ⟨m, e, rfl, hlo, hhi, hmin⟩ := h
  have hU : (0 : ℝ) < 2 ^ e := by positivity
  have hnear : ∀ d : ℤ, |d| = 1 → |v - m * 2 ^ e| ≤ |v - m * 2 ^ e - d * 2 ^ e| := by
    intro d hd
    obtain ⟨m', e', hm', hval⟩ := exists_neighbour hp hhi hd e
    have hle := (hmin m' e' hm').1
    rw [hval] at hle
    push_cast at hle
    rwa [sub_sub]
  have hup := hnear 1 rfl
  have hdown := hnear (-1) rfl
  have hhalf : |v - m * 2 ^ e| ≤ 2 ^ e / 2 := by
    push_cast at hup hdown
    exact abs_le_half hU (by simpa using hup) (by simpa using hdown)
  have hpow : (2 : ℝ) ^ p = 2 * 2 ^ (p - 1) := by rw [← pow_succ', Nat.sub_add_cancel (by omega)]
  have hbits : (2 : ℝ) ^ (p - 1) ≤ |(m : ℝ)| := by exact_mod_cast hlo
  push_cast
  refine hhalf.trans ?_
  rw [abs_mul, abs_of_pos hU, le_div_iff₀ (by positivity), hpow]
  calc (2 : ℝ) ^ e / 2 * (2 * 2 ^ (p - 1)) = 2 ^ (p - 1) * 2 ^ e := by ring
    _ ≤ |(m : ℝ)| * 2 ^ e := mul_le_mul_of_nonneg_right hbits hU.le

/-- Rounding does not cross a power of two. -/
theorem RoundedTo.zpow_le_abs {p : ℕ} {v : ℝ} {q : ℚ} (hp : 2 ≤ p) (h : RoundedTo p v q) {k : ℤ}
    (hv : (2 : ℝ) ^ k ≤ |v|) : (2 : ℝ) ^ k ≤ |(q : ℝ)| := by
  have hpos : ∀ {v : ℝ} {q : ℚ}, RoundedTo p v q → (2 : ℝ) ^ k ≤ v → (2 : ℝ) ^ k ≤ q := by
    rintro v q ⟨_, _, -, -, -, hmin⟩ hv
    have hone : |(1 : ℤ)| < 2 ^ p := by simpa using one_lt_pow₀ (one_lt_two (α := ℤ)) (by omega : p ≠ 0)
    have hle := (hmin 1 k hone).1
    rw [Int.cast_one, one_mul, abs_of_nonneg (sub_nonneg.2 hv)] at hle
    linarith [le_abs_self (v - q)]
  rcases abs_cases v with ⟨habs, -⟩ | ⟨habs, -⟩ <;> rw [habs] at hv
  · exact (hpos h hv).trans (le_abs_self _)
  · have hneg := hpos h.neg hv
    rw [Rat.cast_neg] at hneg
    exact hneg.trans (neg_le_abs _)

/-- The bounds of a rational value are those of the real number. -/
theorem zpow_le_abs_cast {v : ℚ} {k : ℤ} : (2 : ℝ) ^ k ≤ |(v : ℝ)| ↔ (2 : ℚ) ^ k ≤ |v| := by
  rw [← Rat.cast_le (K := ℝ)]
  push_cast
  rfl

theorem abs_cast_lt_zpow {v : ℚ} {k : ℤ} : |(v : ℝ)| < (2 : ℝ) ^ k ↔ |v| < (2 : ℚ) ^ k := by
  rw [← Rat.cast_lt (K := ℝ)]
  push_cast
  rfl

/-- A value away from the ends of the range: the result is finite and near. -/
theorem FlushedRound.near {v : ℝ} {r : ℕ} (h : FlushedRound bf16 v r) (hlo : (2 : ℝ) ^ (-126 : ℤ) ≤ |v|)
    (hhi : |v| < 2 ^ (127 : ℤ)) :
    bf16.isFinite r = true ∧ |v - (bf16.rat r : ℝ)| ≤ |(bf16.rat r : ℝ)| / 2 ^ 8 := by
  obtain ⟨q, neg, hround, -, -, -, hmid⟩ := h
  have hnear : |v - (q : ℝ)| ≤ |(q : ℝ)| / 2 ^ 8 := hround.abs_sub_le (by decide)
  have hqlo := hround.zpow_le_abs (by decide) hlo
  have hqhi : |(q : ℝ)| < 2 ^ (128 : ℤ) := by
    have htri : |(q : ℝ)| ≤ |v| + |v - q| := by
      have := abs_sub_abs_le_abs_sub (q : ℝ) v
      rw [abs_sub_comm] at this
      linarith
    have hbound : (2 : ℝ) ^ (127 : ℤ) * 2 = 2 ^ (128 : ℤ) := by norm_num
    have hpos : (0 : ℝ) < 2 ^ (127 : ℤ) := by positivity
    rw [← hbound]
    norm_num at hnear
    linarith
  obtain ⟨hfin, -, hval⟩ := hmid (zpow_le_abs_cast.1 hqlo) (abs_cast_lt_zpow.1 hqhi)
  rw [hval]
  exact ⟨hfin, hnear⟩

/-- A factor that misses one by at most `2^-8` of itself, but for a small error, is within `2^-8 + 2^-14` of one. -/
theorem abs_sub_one_lt {c y : ℝ} (hc : |c - 1| ≤ 1 / 2 ^ 20) (h : |c - y| ≤ |y| / 2 ^ 8) :
    |y - 1| < 1 / 2 ^ 8 + 1 / 2 ^ 14 := by
  obtain ⟨hc1, hc2⟩ := abs_le.1 hc
  obtain ⟨h1, h2⟩ := abs_le.1 h
  norm_num at hc1 hc2 h1 h2 ⊢
  rw [abs_lt]
  rcases abs_cases y with ⟨hy, hs⟩ | ⟨hy, hs⟩ <;> rw [hy] at h1 h2 <;> constructor <;> linarith

/-! ## Powers of two -/

/-- A pattern with the fraction 0. -/
theorem bf16_pack_power (neg : Bool) {E : ℕ} (hpos : E ≠ 0) (hlt : E < 255) :
    bf16.isFinite (bf16.pack neg E 0) = true ∧
      bf16.rat (bf16.pack neg E 0) = (if neg then -1 else 1) * 2 ^ ((E : ℤ) - 127) := by
  have hfield : E < 2 ^ bf16.ebits := by change E < 256; omega
  have hfrac : 0 < 2 ^ bf16.fbits := Nat.two_pow_pos _
  have hexp := Fmt.exp_pack neg hfield hfrac
  refine ⟨?_, ?_⟩
  · have hones : E ≠ bf16.expOnes := by change E ≠ 255; omega
    exact Fmt.isFinite_iff_exp.2 ⟨Fmt.pack_lt neg hfield hfrac, by rwa [hexp]⟩
  · have hmag : ((2 ^ bf16.fbits + 0 : ℕ) : ℚ) = 2 ^ (7 : ℤ) := by norm_num [bf16]
    have hscale : (E : ℤ) - bf16.bias - bf16.fbits = E - 127 - 7 := rfl
    rw [Fmt.rat_eq, Fmt.sign_pack neg hfield hfrac, Fmt.mag, Fmt.scale, hexp, Fmt.frac_pack neg hfrac, if_neg hpos,
      if_neg hpos, hmag, hscale, ← zpow_add₀ two_ne_zero, add_sub_cancel]

/-- A finite normal source with the fraction 0. -/
theorem bf16_rat_of_frac_zero (hx : bf16.isFinite x = true) (hexp : bf16.exp x ≠ 0) (hfrac : bf16.frac x = 0) :
    bf16.rat x = (if bf16.sign x then -1 else 1) * 2 ^ ((bf16.exp x : ℤ) - 127) := by
  have hpack := Fmt.pack_fields (Fmt.isFinite_iff_exp.1 hx).1
  rw [hfrac] at hpack
  have h := (bf16_pack_power (bf16.sign x) hexp (bf16_exp_lt hx)).2
  rwa [hpack] at h

/-- A normal magnitude is a power of two only with the fraction 0. -/
theorem Fmt.frac_eq_zero_of_abs_rat (hexp : f.exp x ≠ 0) {k : ℤ} (h : |f.rat x| = 2 ^ k) :
    f.frac x = 0 ∧ k = (f.exp x : ℤ) - f.bias := by
  have hk : k = (f.exp x : ℤ) - f.bias :=
    Fmt.exp_of_binade hexp h.ge (by rw [h]; exact zpow_lt_zpow_right₀ one_lt_two (lt_add_one k))
  refine ⟨?_, hk⟩
  rw [Fmt.abs_rat_normal hexp, ← hk, zpow_sub₀ two_ne_zero, zpow_natCast, mul_div_assoc', mul_comm,
    div_eq_iff (by positivity), mul_right_inj' (by positivity)] at h
  have hsum : 2 ^ f.fbits + f.frac x = 2 ^ f.fbits := by exact_mod_cast h
  omega

/-! ## The integer form of the error bounds -/

/-- A value between two bounds as integers, scaled by its denominator. -/
theorem scaled_bounds {p S lo hi : ℕ} {e : ℤ}
    (hlo : lo * (if 0 ≤ e then 1 else 2 ^ (-e).toNat) < if 0 ≤ e then p * 2 ^ e.toNat * S else p * S)
    (hhi : (if 0 ≤ e then p * 2 ^ e.toNat * S else p * S) < hi * (if 0 ≤ e then 1 else 2 ^ (-e).toNat)) :
    (lo : ℚ) < p * 2 ^ e * S ∧ (p : ℚ) * 2 ^ e * S < hi := by
  rcases le_or_gt 0 e with he | he
  · rw [mul_zpow_of_nonneg p he]
    simp only [if_pos he, mul_one] at hlo hhi
    exact ⟨by exact_mod_cast hlo, by exact_mod_cast hhi⟩
  · rw [mul_zpow_of_neg p he, div_mul_eq_mul_div, lt_div_iff₀ (by positivity), div_lt_iff₀ (by positivity)]
    simp only [if_neg (not_le.2 he)] at hlo hhi
    exact ⟨by exact_mod_cast hlo, by exact_mod_cast hhi⟩

/-- An admissible value of the approximation of `1/x` keeps the error bound (R236). -/
theorem rcpAdmissible_spec {r : ℕ} (hr : r < 2 ^ 16) (h : rcpAdmissible x r = true) :
    bf16.isFinite r = true ∧ |bf16.rat r * bf16.rat x - 1| < 1 / 2 ^ 8 + 1 / 2 ^ 14 := by
  simp only [rcpAdmissible, rcpWithin, Bool.and_eq_true, bne_iff_ne, beq_iff_eq, decide_eq_true_eq] at h
  obtain ⟨⟨⟨-, hones⟩, hsign⟩, hlo, hhi⟩ := h
  refine ⟨Fmt.isFinite_iff_exp.2 ⟨hr, hones⟩, ?_⟩
  have hval : bf16.rat r * bf16.rat x =
      ((bf16.mag x * bf16.mag r : ℕ) : ℚ) * 2 ^ (bf16.scale x + bf16.scale r) := by
    rw [bf16.rat_eq r, bf16.rat_eq x, hsign, zpow_add₀ two_ne_zero]
    push_cast
    cases bf16.sign x <;> simp <;> ring
  obtain ⟨h1, h2⟩ := scaled_bounds hlo hhi
  rw [hval, abs_lt]
  norm_num at h1 h2 ⊢
  constructor <;> linarith

/-- An admissible value of the approximation of `1/sqrt(x)` keeps the error bound (R239). -/
theorem rsqrtAdmissible_spec {r : ℕ} (hr : r < 2 ^ 16) (hs : bf16.sign x = false) (h : rsqrtAdmissible x r = true) :
    bf16.isFinite r = true ∧ 0 < bf16.rat r ∧
      |(bf16.rat r : ℝ) * Real.sqrt (bf16.rat x : ℝ) - 1| < 1 / 2 ^ 8 + 1 / 2 ^ 14 := by
  simp only [rsqrtAdmissible, rsqrtWithin, Bool.and_eq_true, bne_iff_ne, Bool.not_eq_true', decide_eq_true_eq] at h
  obtain ⟨⟨⟨-, hones⟩, hsign⟩, hlo, hhi⟩ := h
  have hratr : bf16.rat r = bf16.mag r * 2 ^ bf16.scale r := by simp [bf16.rat_eq, hsign]
  have hratx : bf16.rat x = bf16.mag x * 2 ^ bf16.scale x := by simp [bf16.rat_eq, hs]
  have hval : bf16.rat r ^ 2 * bf16.rat x =
      ((bf16.mag x * bf16.mag r * bf16.mag r : ℕ) : ℚ) * 2 ^ (bf16.scale x + 2 * bf16.scale r) := by
    rw [hratr, hratx, zpow_add₀ two_ne_zero, two_mul, zpow_add₀ two_ne_zero]
    push_cast
    ring
  obtain ⟨h1, h2⟩ := scaled_bounds hlo hhi
  rw [← hval] at h1 h2
  have hnn : 0 ≤ bf16.rat r := by rw [hratr]; positivity
  have hpos : 0 < bf16.rat r := by
    refine hnn.lt_of_ne fun h0 => ?_
    rw [← h0] at h1
    norm_num at h1
  refine ⟨Fmt.isFinite_iff_exp.2 ⟨hr, hones⟩, hpos, ?_⟩
  have hxnn : (0 : ℝ) ≤ bf16.rat x := by rw [hratx]; positivity
  have hsq : ((bf16.rat r : ℝ) * Real.sqrt (bf16.rat x : ℝ)) ^ 2 = (bf16.rat r : ℝ) ^ 2 * bf16.rat x := by
    rw [mul_pow, Real.sq_sqrt hxnn]
  have hynn : 0 ≤ (bf16.rat r : ℝ) * Real.sqrt (bf16.rat x : ℝ) :=
    mul_nonneg (by exact_mod_cast hnn) (Real.sqrt_nonneg _)
  replace h1 := (Rat.cast_lt (K := ℝ)).2 h1
  replace h2 := (Rat.cast_lt (K := ℝ)).2 h2
  push_cast at h1 h2
  rw [← hsq] at h1 h2
  generalize (bf16.rat r : ℝ) * Real.sqrt (bf16.rat x : ℝ) = y at *
  have hlow : 16319 / 16384 < y := lt_of_pow_lt_pow_left₀ 2 hynn (by norm_num at h1 ⊢; linarith)
  have hhigh : y < 16449 / 16384 := lt_of_pow_lt_pow_left₀ 2 (by norm_num) (by norm_num at h2 ⊢; linarith)
  rw [abs_lt]
  constructor <;> linarith

end Sys2Proof.Machine
end

section
/-! PROOFS. The rounded reciprocal and the rounded reciprocal root within their error bounds, and the statement on VRCPBF16
and VRSQRTBF16 (spec/42_bf16_misc.md R236, R239). -/

namespace Sys2Proof.Machine

variable {x : ℕ}

/-! ## The correctly rounded values -/

theorem bf16_one : bf16.isFinite (bf16.one false) = true ∧ bf16.daz (bf16.one false) = bf16.one false ∧
    bf16.rat (bf16.one false) = 1 := by
  refine ⟨by decide, by decide, ?_⟩
  have h : bf16.rat (bf16.one false) = _ := (bf16_pack_power false (E := 127) (by decide) (by decide)).2
  simpa using h

theorem bf16_binade (hexp : bf16.exp x ≠ 0) :
    (2 : ℚ) ^ ((bf16.exp x : ℤ) - 127) ≤ |bf16.rat x| ∧ |bf16.rat x| < 2 ^ ((bf16.exp x : ℤ) - 127 + 1) :=
  Fmt.normal_binade hexp

/-- The rounded reciprocal of a normal number that has a normal reciprocal. -/
theorem rcpExact_within (hx : bf16.isFinite x = true) (hexp : bf16.exp x ≠ 0) (hle : bf16.exp x ≤ 252) :
    bf16.isFinite (rcpExact x) = true ∧ |bf16.rat (rcpExact x) * bf16.rat x - 1| < 1 / 2 ^ 8 + 1 / 2 ^ 14 := by
  obtain ⟨honefin, honedaz, hone⟩ := bf16_one
  have hdaz : bf16.daz x = x := Fmt.daz_of_exp_ne_zero hexp
  have hne : bf16.rat x ≠ 0 := by rwa [← hdaz, Ne, Fmt.rat_daz_eq_zero_iff]
  have hround := Fmt.div_finite bf16_ebits_pos bf16_fbits_pos honefin hx (by rw [honedaz, hone]; exact one_ne_zero)
    (by rwa [hdaz])
  rw [honedaz, hone, hdaz] at hround
  obtain ⟨hlo, hhi⟩ := bf16_binade hexp
  have hsmall : |bf16.rat x| ≤ 2 ^ (126 : ℤ) := hhi.le.trans (zpow_le_zpow_right₀ one_le_two (by omega))
  have hlarge : 2 ^ (-127 : ℤ) < |bf16.rat x| := (zpow_lt_zpow_right₀ one_lt_two (by omega)).trans_le hlo
  have hinvlo : (2 : ℚ) ^ (-126 : ℤ) ≤ |1 / bf16.rat x| := by
    rw [abs_div, abs_one, one_div, zpow_neg]
    exact inv_anti₀ (abs_pos.2 hne) hsmall
  have hinvhi : |1 / bf16.rat x| < (2 : ℚ) ^ (127 : ℤ) := by
    rw [abs_div, abs_one, one_div, ← neg_neg (127 : ℤ), zpow_neg]
    exact inv_strictAnti₀ (by positivity) hlarge
  obtain ⟨hfin, hnear⟩ := hround.near (zpow_le_abs_cast.2 hinvlo) (abs_cast_lt_zpow.2 hinvhi)
  refine ⟨hfin, ?_⟩
  change |bf16.rat (bf16.div (bf16.one false) x) * bf16.rat x - 1| < _
  generalize bf16.rat (bf16.div (bf16.one false) x) = r at *
  have hmul : |1 - ((r * bf16.rat x : ℚ) : ℝ)| ≤ |((r * bf16.rat x : ℚ) : ℝ)| / 2 ^ 8 := by
    have h : |1 / bf16.rat x - r| ≤ |r| / 2 ^ 8 := by exact_mod_cast hnear
    have hscaled : |1 - r * bf16.rat x| ≤ |r * bf16.rat x| / 2 ^ 8 := by
      calc |1 - r * bf16.rat x| = |1 / bf16.rat x - r| * |bf16.rat x| := by
            rw [← abs_mul, sub_mul, one_div_mul_cancel hne]
        _ ≤ |r| / 2 ^ 8 * |bf16.rat x| := mul_le_mul_of_nonneg_right h (abs_nonneg _)
        _ = |r * bf16.rat x| / 2 ^ 8 := by rw [abs_mul]; ring
    exact_mod_cast hscaled
  have hbound := abs_sub_one_lt (by norm_num) hmul
  rw [← Rat.cast_lt (K := ℝ)]
  push_cast at hbound ⊢
  exact hbound

/-- Every value of the approximation that the model can take. -/
theorem rcp14_within (hx : bf16.isFinite x = true) (hexp : bf16.exp x ≠ 0) (hle : bf16.exp x ≤ 252) :
    bf16.isFinite (rcp14 x) = true ∧ |bf16.rat (rcp14 x) * bf16.rat x - 1| < 1 / 2 ^ 8 + 1 / 2 ^ 14 := by
  simp only [rcp14]
  split
  next h => exact rcpAdmissible_spec (BitVec.isLt _) h
  next => exact rcpExact_within hx hexp hle

/-- A significand with many bits is near the value that it stands for. -/
theorem StandsFor.div_near_one {p M : ℕ} {w : ℝ} (h : StandsFor p M w) (hp : 20 ≤ p) (hM : M ≠ 0) :
    |(M : ℝ) / w - 1| ≤ 1 / 2 ^ 20 := by
  have hw := h.pos hM
  rcases h with rfl | ⟨hbits, -, hnear⟩
  · rw [div_self hw.ne', sub_self, abs_zero]
    positivity
  · have hlarge : (2 : ℝ) ^ 21 ≤ M := by exact_mod_cast two_pow_log2_le hM (by omega : 21 ≤ Nat.log2 M)
    rw [div_sub_one hw.ne', abs_div, abs_of_pos hw, abs_sub_comm, div_le_iff₀ hw]
    have hbelow := (abs_lt.1 hnear).1
    calc |w - M| ≤ 1 / 2 ^ 20 * 2 ^ 20 := by norm_num; exact hnear.le
      _ ≤ 1 / 2 ^ 20 * w := mul_le_mul_of_nonneg_left (by linarith) (by positivity)

theorem abs_sqrt_sub_one_le {t : ℝ} (ht : 0 ≤ t) : |Real.sqrt t - 1| ≤ |t - 1| := by
  have hfactor : t - 1 = (Real.sqrt t - 1) * (Real.sqrt t + 1) := by
    linear_combination -(Real.mul_self_sqrt ht)
  rw [hfactor, abs_mul]
  have hs := Real.sqrt_nonneg t
  exact le_mul_of_one_le_right (abs_nonneg _) (by rw [abs_of_pos (by linarith)]; linarith)

/-- The computed root of the computed reciprocal of a positive normal number is the flushed rounding of a value near
`1/sqrt(x)`. -/
theorem rsqrtExact_rounded (hx : bf16.isFinite x = true) (hexp : bf16.exp x ≠ 0) (hs : bf16.sign x = false) :
    ∃ t : ℝ, |t - 1| ≤ 1 / 2 ^ 20 ∧ FlushedRound bf16 (Real.sqrt (t / bf16.rat x)) (rsqrtExact x) := by
  have hmag : bf16.mag x ≠ 0 := by
    rw [Ne, ← Fmt.rat_eq_zero_iff, ← Fmt.daz_of_exp_ne_zero hexp, Fmt.rat_daz_eq_zero_iff]
    exact hexp
  obtain ⟨M, E, w, hdiv, hM, hstands, hw⟩ :=
    divFinite_spec (bits := 64) (p := 64) le_rfl (m1 := 128) (by decide) hmag false (-7) (bf16.scale x)
  obtain ⟨M', E', w', hsqrt, hM', hstands', hw'⟩ := sqrtFinite_spec (bits := 32) (p := 8) (by decide) hM E
  have hcomputed : rsqrtExact x = bf16.roundFtz (.fin false M' E') := by
    have hone : bf16.value (bf16.one false) = .fin false 128 (-7) := by decide
    have hval : bf16.value x = .fin false (bf16.mag x) (bf16.scale x) := by
      simp [Fmt.value, Fmt.isInf_of_isFinite hx, Fmt.finite, hs]
    simp [rsqrtExact, hone, hval, XReal.div, hmag, hdiv, XReal.sqrt, hM, hsqrt, Fmt.finish]
  have hround := Fmt.flushedRound_roundFtz bf16_ebits_pos bf16_fbits_pos (neg := false) (e := E') hM' hstands'
  refine ⟨M / w, hstands.div_near_one (by decide) hM, ?_⟩
  have hquot : (M : ℝ) * 2 ^ E = M / w / bf16.rat x := by
    have hrat : (bf16.rat x : ℝ) = bf16.mag x * 2 ^ bf16.scale x := by simp [bf16.rat_eq, hs]
    have hinv : w * 2 ^ E = 1 / bf16.rat x := by
      rw [hw, hrat]
      norm_num
    rw [← mul_one_div _ (bf16.rat x : ℝ), ← hinv, ← mul_assoc, div_mul_cancel₀ _ (hstands.pos hM).ne']
  rwa [hcomputed, ← hquot, ← hw', ← one_mul (w' * 2 ^ E')]

/-- The rounded reciprocal of the root of a positive normal number. -/
theorem rsqrtExact_within (hx : bf16.isFinite x = true) (hexp : bf16.exp x ≠ 0) (hs : bf16.sign x = false) :
    bf16.isFinite (rsqrtExact x) = true ∧ 0 < bf16.rat (rsqrtExact x) ∧
      |(bf16.rat (rsqrtExact x) : ℝ) * Real.sqrt (bf16.rat x : ℝ) - 1| < 1 / 2 ^ 8 + 1 / 2 ^ 14 := by
  obtain ⟨t, ht, hround⟩ := rsqrtExact_rounded hx hexp hs
  obtain ⟨hlo, hhi⟩ := Fmt.normal_range bf16_ebits_pos hx hexp
  have hnn : (0 : ℝ) ≤ bf16.rat x := by
    simp only [bf16.rat_eq, hs, Bool.false_eq_true, if_false, one_mul]
    positivity
  rw [← zpow_le_abs_cast, abs_of_nonneg hnn] at hlo
  rw [← abs_cast_lt_zpow, abs_of_nonneg hnn] at hhi
  have hXlo : (2 : ℝ) ^ (-126 : ℤ) ≤ bf16.rat x := hlo
  have hXhi : (bf16.rat x : ℝ) < 2 ^ (128 : ℤ) := hhi
  generalize (bf16.rat x : ℝ) = X at *
  have hXpos : 0 < X := lt_of_lt_of_le (by positivity) hXlo
  obtain ⟨ht1, ht2⟩ := abs_le.1 ht
  norm_num at ht1 ht2
  have htpos : 0 < t := by linarith
  have hVlo : (2 : ℝ) ^ (-126 : ℤ) ≤ Real.sqrt (t / X) := by
    rw [Real.le_sqrt' (by positivity), le_div_iff₀ hXpos]
    norm_num at hXhi ⊢
    linarith
  have hVhi : Real.sqrt (t / X) < 2 ^ (127 : ℤ) := by
    rw [Real.sqrt_lt' (by positivity), div_lt_iff₀ hXpos]
    norm_num at hXlo ⊢
    linarith
  have hVnn : |Real.sqrt (t / X)| = Real.sqrt (t / X) := abs_of_nonneg (Real.sqrt_nonneg _)
  obtain ⟨hfin, hnear⟩ := hround.near (by rwa [hVnn]) (by rwa [hVnn])
  have hVpos : 0 < Real.sqrt (t / X) := Real.sqrt_pos.2 (by positivity)
  have hpos : (0 : ℝ) < bf16.rat (rsqrtExact x) := by
    by_contra hle
    rw [not_lt] at hle
    rw [abs_of_nonpos hle] at hnear
    have := (abs_le.1 hnear).2
    norm_num at this
    linarith
  refine ⟨hfin, by exact_mod_cast hpos, abs_sub_one_lt (c := Real.sqrt t) ((abs_sqrt_sub_one_le htpos.le).trans ht) ?_⟩
  generalize (bf16.rat (rsqrtExact x) : ℝ) = r at *
  have hroot : Real.sqrt t = Real.sqrt (t / X) * Real.sqrt X := by
    rw [← Real.sqrt_mul (by positivity), div_mul_cancel₀ _ hXpos.ne']
  calc |Real.sqrt t - r * Real.sqrt X| = |Real.sqrt (t / X) - r| * Real.sqrt X := by
        rw [hroot, ← sub_mul, abs_mul, abs_of_nonneg (Real.sqrt_nonneg X)]
    _ ≤ |r| / 2 ^ 8 * Real.sqrt X := mul_le_mul_of_nonneg_right hnear (Real.sqrt_nonneg X)
    _ = |r * Real.sqrt X| / 2 ^ 8 := by rw [abs_mul, abs_of_nonneg (Real.sqrt_nonneg X)]; ring

/-- Every value of the approximation that the model can take. -/
theorem rsqrt14_within (hx : bf16.isFinite x = true) (hexp : bf16.exp x ≠ 0) (hs : bf16.sign x = false) :
    bf16.isFinite (rsqrt14 x) = true ∧ 0 < bf16.rat (rsqrt14 x) ∧
      |(bf16.rat (rsqrt14 x) : ℝ) * Real.sqrt (bf16.rat x : ℝ) - 1| < 1 / 2 ^ 8 + 1 / 2 ^ 14 := by
  simp only [rsqrt14]
  split
  next h => exact rsqrtAdmissible_spec (BitVec.isLt _) hs h
  next => exact rsqrtExact_within hx hexp hs

/-! ## The two functions -/

theorem rcpBf16_normal (hx : bf16.isFinite x = true) (hexp : bf16.exp x ≠ 0) :
    rcpBf16 x =
      if bf16.frac x = 0 then
        (if 253 < bf16.exp x then bf16.zero (bf16.sign x) else bf16.pack (bf16.sign x) (254 - bf16.exp x) 0)
      else if 252 < bf16.exp x then bf16.zero (bf16.sign x) else rcp14 x := by
  have hzero : bf16.isZero x = false := by simp [Fmt.isZero, hexp]
  simp only [rcpBf16, Fmt.daz_of_exp_ne_zero hexp, Fmt.isNaN_of_isFinite hx, Fmt.isInf_of_isFinite hx, hzero,
    Bool.false_eq_true, if_false]

theorem rsqrtBf16_normal (hx : bf16.isFinite x = true) (hexp : bf16.exp x ≠ 0) :
    rsqrtBf16 x =
      if bf16.sign x then 0xFFC0
      else if bf16.frac x = 0 ∧ bf16.exp x % 2 = 1 then bf16.pack false ((381 - bf16.exp x) / 2) 0 else rsqrt14 x := by
  have hzero : bf16.isZero x = false := by simp [Fmt.isZero, hexp]
  simp only [rsqrtBf16, Fmt.daz_of_exp_ne_zero hexp, Fmt.isNaN_of_isFinite hx, Fmt.isInf_of_isFinite hx, hzero,
    Bool.false_eq_true, if_false, bf16_indefinite, Bool.and_eq_true, decide_eq_true_eq]

/-- The operands that are not normal numbers. -/
theorem approximation_special (x : ℕ) :
    (bf16.isNaN x = true → rcpBf16 x = bf16.quiet x ∧ rsqrtBf16 x = bf16.quiet x) ∧
    (bf16.exp x = 0 → rcpBf16 x = bf16.inf (bf16.sign x) ∧ rsqrtBf16 x = bf16.inf (bf16.sign x)) ∧
    (bf16.isInf x = true → rcpBf16 x = bf16.zero (bf16.sign x) ∧
      rsqrtBf16 x = if bf16.sign x then 0xFFC0 else 0) := by
  have he := bf16_ebits_pos
  refine ⟨fun h => ?_, fun h => ?_, fun h => ?_⟩
  · simp [rcpBf16, rsqrtBf16, Fmt.daz_of_isNaN he h, h]
  · simp [rcpBf16, rsqrtBf16, Fmt.isNaN_daz he, Fmt.isNaN_of_exp_zero he h, (Fmt.isZero_daz_iff x).2 h]
  · have hexp : bf16.exp x ≠ 0 := fun h0 => by simp [Fmt.isInf_of_exp_zero he h0] at h
    have hzero : bf16.isZero x = false := by simp [Fmt.isZero, hexp]
    simp [rcpBf16, rsqrtBf16, Fmt.daz_of_exp_ne_zero hexp, Fmt.isNaN_eq_false_of_isInf h, hzero, h, bf16_indefinite]
    rfl

/-- A normal number whose reciprocal is below the normal range. -/
theorem rcpBf16_large (hx : bf16.isFinite x = true) (hexp : bf16.exp x ≠ 0) (h : (2 : ℚ) ^ 126 < |bf16.rat x|) :
    rcpBf16 x = bf16.zero (bf16.sign x) := by
  rw [rcpBf16_normal hx hexp]
  have hhi := (bf16_binade hexp).2
  split
  next hfrac =>
    refine if_pos ?_
    rw [bf16_rat_of_frac_zero hx hexp hfrac, ← zpow_natCast] at h
    have h' : (2 : ℚ) ^ ((126 : ℕ) : ℤ) < 2 ^ ((bf16.exp x : ℤ) - 127) := by
      cases hs : bf16.sign x <;> simpa [hs, abs_of_pos] using h
    have := (zpow_lt_zpow_iff_right₀ one_lt_two).1 h'
    omega
  next =>
    refine if_pos ?_
    rw [← zpow_natCast] at h
    have := (zpow_lt_zpow_iff_right₀ one_lt_two).1 (h.trans hhi)
    omega

/-- A normal number whose reciprocal is in the normal range. -/
theorem rcpBf16_within (hx : bf16.isFinite x = true) (hexp : bf16.exp x ≠ 0) (h : |bf16.rat x| ≤ (2 : ℚ) ^ 126) :
    bf16.isFinite (rcpBf16 x) = true ∧ |bf16.rat (rcpBf16 x) * bf16.rat x - 1| < 1 / 2 ^ 8 + 1 / 2 ^ 14 ∧
      (bf16.frac x = 0 → bf16.rat (rcpBf16 x) * bf16.rat x = 1) := by
  rw [rcpBf16_normal hx hexp]
  have hlo := (bf16_binade hexp).1
  have hle : bf16.exp x ≤ 253 := by
    rw [← zpow_natCast] at h
    have := (zpow_le_zpow_iff_right₀ one_lt_two).1 (hlo.trans h)
    omega
  split
  next hfrac =>
    obtain ⟨hfin, hval⟩ := bf16_pack_power (bf16.sign x) (E := 254 - bf16.exp x) (by omega) (by omega)
    have hone : bf16.rat (bf16.pack (bf16.sign x) (254 - bf16.exp x) 0) * bf16.rat x = 1 := by
      have hpow : (2 : ℚ) ^ (((254 - bf16.exp x : ℕ) : ℤ) - 127) * 2 ^ ((bf16.exp x : ℤ) - 127) = 1 := by
        rw [← zpow_add₀ two_ne_zero, ← zpow_zero (2 : ℚ)]
        congr 1
        omega
      rw [hval, bf16_rat_of_frac_zero hx hexp hfrac]
      cases bf16.sign x <;> simpa using hpow
    rw [if_neg (by omega)]
    exact ⟨hfin, by rw [hone]; norm_num, fun _ => hone⟩
  next hfrac =>
    have hne : bf16.exp x ≠ 253 := fun h253 => by
      rw [h253] at hlo
      have hval : |bf16.rat x| = 2 ^ (126 : ℤ) := le_antisymm (by exact_mod_cast h) (by exact_mod_cast hlo)
      exact hfrac (Fmt.frac_eq_zero_of_abs_rat hexp hval).1
    rw [if_neg (by omega)]
    obtain ⟨hfin, hnear⟩ := rcp14_within hx hexp (by omega)
    exact ⟨hfin, hnear, fun h0 => absurd h0 hfrac⟩

/-- The exact root of an even power of two. -/
theorem rsqrt_power (hx : bf16.isFinite x = true) (hexp : bf16.exp x ≠ 0) (hs : bf16.sign x = false)
    (hfrac : bf16.frac x = 0) (hodd : bf16.exp x % 2 = 1) :
    ∃ n : ℤ, bf16.rat x = 2 ^ (2 * n) ∧ bf16.isFinite (bf16.pack false ((381 - bf16.exp x) / 2) 0) = true ∧
      bf16.rat (bf16.pack false ((381 - bf16.exp x) / 2) 0) = 2 ^ (-n) := by
  have hlt := bf16_exp_lt hx
  obtain ⟨n, hn⟩ : ∃ n : ℤ, (bf16.exp x : ℤ) - 127 = 2 * n := ⟨((bf16.exp x : ℤ) - 127) / 2, by omega⟩
  obtain ⟨hfin, hval⟩ := bf16_pack_power false (E := (381 - bf16.exp x) / 2) (by omega) (by omega)
  refine ⟨n, ?_, hfin, ?_⟩
  · simp [bf16_rat_of_frac_zero hx hexp hfrac, hs, hn]
  · rw [hval, show (((381 - bf16.exp x) / 2 : ℕ) : ℤ) - 127 = -n by omega]
    simp

/-- A positive normal number. -/
theorem rsqrtBf16_within (hx : bf16.isFinite x = true) (hexp : bf16.exp x ≠ 0) (hs : bf16.sign x = false) :
    bf16.isFinite (rsqrtBf16 x) = true ∧ 0 < bf16.rat (rsqrtBf16 x) ∧
      |(bf16.rat (rsqrtBf16 x) : ℝ) * Real.sqrt (bf16.rat x : ℝ) - 1| < 1 / 2 ^ 8 + 1 / 2 ^ 14 ∧
      ∀ n : ℤ, bf16.rat x = 2 ^ (2 * n) → bf16.rat (rsqrtBf16 x) = 2 ^ (-n) := by
  rw [rsqrtBf16_normal hx hexp, if_neg (by simp [hs])]
  split
  next hpower =>
    obtain ⟨n, hval, hfin, hroot⟩ := rsqrt_power hx hexp hs hpower.1 hpower.2
    rw [hroot]
    refine ⟨hfin, by positivity, ?_, fun k hk => ?_⟩
    · have hsqrt : Real.sqrt (bf16.rat x : ℝ) = 2 ^ n := by
        rw [hval, mul_comm, zpow_mul]
        push_cast
        exact Real.sqrt_sq (by positivity)
      have hone : (((2 : ℚ) ^ (-n) : ℚ) : ℝ) * 2 ^ n = 1 := by
        push_cast
        rw [zpow_neg, inv_mul_cancel₀ (by positivity)]
      rw [hsqrt, hone]
      norm_num
    · have := zpow_right_injective₀ two_pos (by norm_num : (2 : ℚ) ≠ 1) (hval.symm.trans hk)
      rw [show n = k by omega]
  next hpower =>
    obtain ⟨hfin, hpos, hnear⟩ := rsqrt14_within hx hexp hs
    refine ⟨hfin, hpos, hnear, fun n hn => absurd ?_ hpower⟩
    have habs : |bf16.rat x| = 2 ^ (2 * n) := by rw [hn, abs_of_pos (by positivity)]
    obtain ⟨hfrac, hexpval⟩ := Fmt.frac_eq_zero_of_abs_rat hexp habs
    have hbias : bf16.bias = 127 := rfl
    exact ⟨hfrac, by omega⟩

/-- Settles O41: an approximation is an admissible value or the rounded one, both within the bound, and powers of two are
exact. -/
theorem approximationBounds : Obligations.ApproximationBounds := by
  intro x _
  obtain ⟨hnan, hzero, hinf⟩ := approximation_special x
  refine ⟨hnan, hzero, hinf, fun hx hexp => ⟨rcpBf16_large hx hexp, rcpBf16_within hx hexp, fun hs => ?_,
    rsqrtBf16_within hx hexp⟩⟩
  rw [rsqrtBf16_normal hx hexp, if_pos hs]

end Sys2Proof.Machine
end

section
/-! PROOFS. The scalar compares with enhanced EFLAGS: completion and the raised exception, and the statement on the six forms
(spec/43_compare_scalar.md R261 to R269). -/

namespace Sys2Proof.Machine

/-! ## A compare with an unmasked flag (R432) -/

/-- A flag that is not quiet raises before EFLAGS is written. -/
theorem execCompare_raises {i : Instr} {s : State} {x : Zmm} {cmp : Sources → BitVec 32 × Flags} (hx : Runs i s x)
    (hv : i.parts.vl = .v128) (he : exec i s = execCompare i.parts.op i.parts.raw cmp s)
    (hc : i.parts.op.info.cls.consultsMasks = true)
    (hq : ¬ Quiet s i.parts.raw.rm.loc (cmp (s.sources i.parts.raw x)).2) :
    exec i s = raise (if s.cr4.getLsbD 10 then .xm else .ud) (s.orFlags (cmp (s.sources i.parts.raw x)).2) := by
  obtain ⟨hsae, hunmasked⟩ := not_or.1 hq
  have hs := hx.source
  rw [hv] at hs
  rw [he, execCompare, guarded_source hx.ready hs, signal_raises hc (Bool.eq_false_iff.2 hsae) hunmasked]

/-! ## The comparison (R261, R262) -/

/-- The instruction is the comparison of element 0 of `o` in the format `f` of width `w`, with IE for quiet NaNs under
`quietSignals` and with MXCSR.DAZ consulted under `dazed`. -/
structure ComparesScalars (i : Instr) (o : RegRm) (f : Fmt) (w : Nat) (quietSignals dazed : Bool) : Prop where
  raw_eq : i.parts.raw = o.raw
  vl_eq : i.parts.vl = .v128
  consultsMasks : i.parts.op.info.cls.consultsMasks = true
  exec_eq : ∀ s, exec i s = execCompare i.parts.op i.parts.raw (comx f w (dazed && s.daz) quietSignals) s

/-- Each of the six forms, with its format and the options of its row (R264 to R269). -/
theorem comparesScalars_of_mem {c : RegRm → Instr} {f : Fmt} {w : Nat} {quietSignals dazed : Bool}
    (h : (c, f, w, quietSignals, dazed) ∈
      [(Instr.vcomxsd, fp64, 64, true, true), (Instr.vcomxsh, fp16, 16, true, false),
       (Instr.vcomxss, fp32, 32, true, true), (Instr.vucomxsd, fp64, 64, false, true),
       (Instr.vucomxsh, fp16, 16, false, false), (Instr.vucomxss, fp32, 32, false, true)]) (o : RegRm) :
    ComparesScalars (c o) o f w quietSignals dazed := by
  simp only [List.mem_cons, Prod.mk.injEq, List.not_mem_nil, or_false] at h
  rcases h with ⟨rfl, rfl, rfl, rfl, rfl⟩ | ⟨rfl, rfl, rfl, rfl, rfl⟩ | ⟨rfl, rfl, rfl, rfl, rfl⟩ |
    ⟨rfl, rfl, rfl, rfl, rfl⟩ | ⟨rfl, rfl, rfl, rfl, rfl⟩ | ⟨rfl, rfl, rfl, rfl, rfl⟩ <;>
    exact ⟨rfl, rfl, rfl, fun _ => rfl⟩

section
variable {i : Instr} {o : RegRm} {f : Fmt} {w : Nat} {quietSignals dazed : Bool} {s : State} {x : Zmm}

/-- A quiet comparison completes with the status flags of its relation. -/
theorem ComparesScalars.done (h : ComparesScalars i o f w quietSignals dazed) (hx : Runs i s x)
    (hq : Quiet s o.rm.loc (comx f w (dazed && s.daz) quietSignals (s.sources o.raw x)).2) {of sf zf af pf cf : Bool}
    (hb : (comx f w (dazed && s.daz) quietSignals (s.sources o.raw x)).1 = statusBits of sf zf af pf cf) :
    StatusDone i s (effectiveFlags o.rm.loc (comx f w (dazed && s.daz) quietSignals (s.sources o.raw x)).2)
      of sf zf af pf cf := by
  have hdone := execCompare_done hx h.vl_eq (h.exec_eq s) (fun _ => by rw [h.raw_eq]; exact hq) (by rw [h.raw_eq]; exact hb)
  rwa [h.raw_eq] at hdone

/-- A comparison that is not quiet raises. -/
theorem ComparesScalars.raises (h : ComparesScalars i o f w quietSignals dazed) (hx : Runs i s x)
    (hq : ¬ Quiet s o.rm.loc (comx f w (dazed && s.daz) quietSignals (s.sources o.raw x)).2) :
    exec i s = raise (if s.cr4.getLsbD 10 then .xm else .ud)
      (s.orFlags (comx f w (dazed && s.daz) quietSignals (s.sources o.raw x)).2) := by
  have hraise := execCompare_raises hx h.vl_eq (h.exec_eq s) h.consultsMasks (by rw [h.raw_eq]; exact hq)
  rwa [h.raw_eq] at hraise

end

/-- Settles O43: each form is the comparison of its row; when quiet it completes, relation by relation, with the status flags
of the relation, otherwise it raises. -/
theorem scalarCompareResults : Obligations.ScalarCompareResults := by
  intro c f w quietSignals dazed hmem o s x hx a b nan F recorded
  have hcmp := comparesScalars_of_mem hmem o
  refine ⟨fun hq => ?_, hcmp.raises hx⟩
  have hrel : (comx f w (dazed && s.daz) quietSignals (s.sources o.raw x)).1 = (f.rel a b).comxStatus := rfl
  cases hr : f.rel a b <;> rw [hr] at hrel <;> exact hcmp.done hx hq hrel

end Sys2Proof.Machine
end

section
/-! PROOFS. When the converts from FP16 to FP8 complete and with which bytes and flags (spec/44_convert_fp8.md R281 to
R296). -/

namespace Sys2Proof.Machine

/-! ## Completion -/

section Convert

variable {i : Instr} {s : State} {x : Zmm} {w n : ℕ} {F : Flags} {vl : VL} {y : Fp8} {sat : Bool}

theorem bytes_mul_le (vl : VL) : 8 * (vl.bits / 8) ≤ 512 := by cases vl <;> decide

theorem half_bytes_mul_le (vl : VL) : 8 * (vl.bits / 16) ≤ 512 := by cases vl <;> decide

/-- A form of a class that does not consult the masks completes and records its flags. -/
theorem execVec_unmaskable_done {elem : Sources → ℕ → Elem w} (hx : Runs i s x)
    (he : exec i s = execVec i.parts.op i.parts.vl i.parts.raw w n elem s) (hw : w * n ≤ 512)
    (hc : i.parts.op.info.cls.consultsMasks = false)
    (hF : Collected s i.parts.raw.aaa n (fun j => (elem (s.sources i.parts.raw x) j).2) F) :
    VectorDone i s (effectiveFlags i.parts.raw.rm.loc F) w n fun j => (elem (s.sources i.parts.raw x) j).1 :=
  execVec_done hx he hw hF fun h => absurd h (by rw [hc]; exact Bool.false_ne_true)

/-- A one-source form. -/
theorem fp8Elem_done (hx : Runs i s x)
    (he : exec i s = execVec i.parts.op i.parts.vl i.parts.raw 8 (vl.bits / 16) (fp8Elem y sat) s)
    (hc : i.parts.op.info.cls.consultsMasks = false) :
    let r := fun j => fp16ToFp8 (lane 16 j x).toNat y sat
    Collected s i.parts.raw.aaa (vl.bits / 16) (fun j => fp8Flags y (lane 16 j x).toNat (r j)) F →
    VectorDone i s (effectiveFlags i.parts.raw.rm.loc F) 8 (vl.bits / 16) fun j => BitVec.ofNat 8 (r j).byte :=
  execVec_unmaskable_done hx he (half_bytes_mul_le vl) hc

/-- A two-source form: the low half from the r/m source. -/
theorem fp8Pair_done (hx : Runs i s x)
    (he : exec i s = execVec i.parts.op i.parts.vl i.parts.raw 8 (vl.bits / 8) (fp8Pair (vl.bits / 16) y sat) s)
    (hc : i.parts.op.info.cls.consultsMasks = false) :
    let t := fun j => if j < vl.bits / 16 then (lane 16 j x).toNat
      else (lane 16 (j - vl.bits / 16) (s.vec i.parts.raw.vvvv)).toNat
    let r := fun j => fp16ToFp8 (t j) y sat
    Collected s i.parts.raw.aaa (vl.bits / 8) (fun j => fp8Flags y (t j) (r j)) F →
    VectorDone i s (effectiveFlags i.parts.raw.rm.loc F) 8 (vl.bits / 8) fun j => BitVec.ofNat 8 (r j).byte :=
  execVec_unmaskable_done hx he (bytes_mul_le vl) hc

/-- A bias form: the bias is the low byte of the element of the first source. -/
theorem fp8Bias_done (hx : Runs i s x)
    (he : exec i s = execVec i.parts.op i.parts.vl i.parts.raw 8 (vl.bits / 16) (fp8Bias y sat) s)
    (hc : i.parts.op.info.cls.consultsMasks = false) :
    let r := fun j => fp16ToFp8Bias (lane 16 j x).toNat (lane 8 (2 * j) (s.vec i.parts.raw.vvvv)).toNat y sat
    Collected s i.parts.raw.aaa (vl.bits / 16) (fun j => fp8Flags y (lane 16 j x).toNat (r j)) F →
    VectorDone i s (effectiveFlags i.parts.raw.rm.loc F) 8 (vl.bits / 16) fun j => BitVec.ofNat 8 (r j).byte :=
  execVec_unmaskable_done hx he (half_bytes_mul_le vl) hc

end Convert

/-! ## The statement -/

/-- Settles O44: each form is the convert of its shape, format and saturation, in a class that does not consult the masks. -/
theorem fp8Results : Obligations.Fp8Results := by
  refine ⟨fun c y sat hc vl o s x F hx => ?_, fun c y sat hc vl o s x F hx => ?_, fun c y sat hc vl o s x F hx => ?_⟩
  all_goals simp only [List.mem_cons, Prod.mk.injEq, List.not_mem_nil, or_false] at hc
  · rcases hc with ⟨rfl, rfl, rfl⟩ | ⟨rfl, rfl, rfl⟩ | ⟨rfl, rfl, rfl⟩ | ⟨rfl, rfl, rfl⟩ <;>
      exact fp8Elem_done hx rfl rfl
  · rcases hc with ⟨rfl, rfl, rfl⟩ | ⟨rfl, rfl, rfl⟩ | ⟨rfl, rfl, rfl⟩ | ⟨rfl, rfl, rfl⟩ <;>
      exact fp8Pair_done hx rfl rfl
  · rcases hc with ⟨rfl, rfl, rfl⟩ | ⟨rfl, rfl, rfl⟩ | ⟨rfl, rfl, rfl⟩ | ⟨rfl, rfl, rfl⟩ <;>
      exact fp8Bias_done hx rfl rfl

end Sys2Proof.Machine
end

section
/-! PROOFS. VCVTHF82PH: the pattern of each byte has its sign and value, and a processed denormal raises where DE is unmasked
(spec/40_numerics_helpers.md R140, spec/44_convert_fp8.md R295). -/

namespace Sys2Proof.Machine

/-! ## A packed finite pattern (R130, R133) -/

/-- The value of a pattern from its fields. -/
theorem Fmt.pack_spec {f : Fmt} {e m : ℕ} (neg : Bool) (he : e < f.expOnes) (hm : m < 2 ^ f.fbits) :
    f.isFinite (f.pack neg e m) = true ∧ f.sign (f.pack neg e m) = neg ∧
      f.rat (f.pack neg e m) = signedValue neg (if e = 0 then m else 2 ^ f.fbits + m)
        ((if e = 0 then 1 else (e : ℤ)) - f.bias - f.fbits) := by
  have hfield := he.trans f.expOnes_lt
  refine ⟨?_, Fmt.sign_pack neg hfield hm, ?_⟩
  · simp [Fmt.isFinite, Fmt.pack_lt neg hfield hm, Fmt.exp_pack neg hfield hm, he.ne]
  · rw [Fmt.rat_eq_signedValue, Fmt.sign_pack neg hfield hm, Fmt.mag, Fmt.scale, Fmt.exp_pack neg hfield hm,
      Fmt.frac_pack neg hm]

/-! ## HF8 to FP16 (R140) -/

section Hf8

variable {x : ℕ}

/-- The sign bit of the byte moved to that of the result. -/
theorem fp16_pack_hf8_sign (hx : x < 2 ^ 8) (e m : ℕ) :
    fp16.pack (hf8.sign x) e m = e * 2 ^ 10 + m + x / 128 * 2 ^ 15 := by
  have hsign : hf8.sign x = decide (x / 128 % 2 = 1) := Nat.testBit_eq_decide_div_mod_eq
  have hbit : x / 128 = 0 ∨ x / 128 = 1 := by omega
  rw [hsign, Fmt.pack]
  rcases hbit with h | h
  · simp [h, fp16]
  · simp [h, fp16, add_comm, add_assoc]

theorem hf8ToFp16_nan (h : x % 128 = 127) : hf8ToFp16 x = x / 128 * 2 ^ 15 + 0x7F80 := by
  have he : x / 8 % 16 = 15 := by omega
  have hm : x % 8 = 7 := by omega
  simp [hf8ToFp16, he, hm, add_comm]

theorem hf8ToFp16_zero (hx : x < 2 ^ 8) (he : hf8.exp x = 0) (hm : x % 8 = 0) :
    hf8ToFp16 x = fp16.pack (hf8.sign x) 0 0 := by
  rw [hf8_exp] at he
  simp [fp16_pack_hf8_sign hx, hf8ToFp16, he, hm]

/-- A denormal is shifted by its leading zeros and one bit more. -/
theorem hf8ToFp16_denormal (hx : x < 2 ^ 8) (he : hf8.exp x = 0) (hm : x % 8 ≠ 0) :
    ∃ lz m : ℕ, lz ≤ 2 ∧ x % 8 * 2 ^ (lz + 1) = 8 + m ∧ m < 8 ∧
      hf8ToFp16 x = fp16.pack (hf8.sign x) (8 - lz) (m * 2 ^ 7) := by
  have hlt : x % 8 < 8 := Nat.mod_lt _ (by norm_num)
  rw [hf8_exp] at he
  simp only [fp16_pack_hf8_sign hx, hf8ToFp16, he, true_and, if_pos hm, zero_add]
  by_cases h3 : 3 < x % 8
  · exact ⟨0, x % 8 * 2 - 8, by omega, by omega, by omega, by rw [if_pos h3]; omega⟩
  by_cases h1 : 1 < x % 8
  · exact ⟨1, x % 8 * 4 - 8, by omega, by omega, by omega, by rw [if_neg h3, if_pos h1]; omega⟩
  · exact ⟨2, 0, by omega, by omega, by omega, by rw [if_neg h3, if_neg h1]; omega⟩

/-- A normal number gets the bias of FP16. -/
theorem hf8ToFp16_normal (hx : x < 2 ^ 8) (he : hf8.exp x ≠ 0) (hnan : x % 128 ≠ 127) :
    hf8ToFp16 x = fp16.pack (hf8.sign x) (hf8.exp x + 8) (x % 8 * 2 ^ 7) := by
  rw [hf8_exp] at *
  have hne : ¬ (x / 8 % 16 = 15 ∧ x % 8 = 7) := by omega
  simp only [fp16_pack_hf8_sign hx, hf8ToFp16, he, hne, false_and, if_false]

/-- A pattern with the sign of the byte and its significand at its scale. -/
theorem hf8ToFp16_spec_of_pack {e m : ℕ} (he : e < 31) (hm : m < 2 ^ 10)
    (h : hf8ToFp16 x = fp16.pack (hf8.sign x) e m)
    (hval : ((if e = 0 then m else 2 ^ 10 + m : ℕ) : ℚ) * 2 ^ ((if e = 0 then 1 else (e : ℤ)) - 15 - 10) =
      (hf8.mag x : ℚ) * 2 ^ hf8.scale x) :
    fp16.isFinite (hf8ToFp16 x) = true ∧ fp16.rat (hf8ToFp16 x) = hf8.rat x ∧
      fp16.sign (hf8ToFp16 x) = hf8.sign x := by
  obtain ⟨hfin, hsign, hrat⟩ := Fmt.pack_spec (f := fp16) (hf8.sign x) he hm
  rw [h]
  exact ⟨hfin, hrat.trans ((congrArg _ hval).trans (hf8.rat_eq x).symm), hsign⟩

/-- Every byte but the NaN becomes a finite pattern of its sign and value. -/
theorem hf8ToFp16_spec (hx : x < 2 ^ 8) (hnan : x % 128 ≠ 127) :
    fp16.isFinite (hf8ToFp16 x) = true ∧ fp16.rat (hf8ToFp16 x) = hf8.rat x ∧
      fp16.sign (hf8ToFp16 x) = hf8.sign x := by
  have hm : x % 8 < 8 := Nat.mod_lt _ (by norm_num)
  have hmag := hf8_mag x
  have hscale := hf8_scale x
  by_cases he : hf8.exp x = 0
  · rw [if_pos he] at hmag hscale
    by_cases hzero : x % 8 = 0
    · refine hf8ToFp16_spec_of_pack (by norm_num) (by norm_num) (hf8ToFp16_zero hx he hzero) ?_
      rw [hmag, hzero]
      simp
    · obtain ⟨lz, m, hlz, hshift, hlt, h⟩ := hf8ToFp16_denormal hx he hzero
      refine hf8ToFp16_spec_of_pack (by omega) (by omega) h ?_
      have hsig : 2 ^ 10 + m * 2 ^ 7 = x % 8 * 2 ^ (lz + 8) := by
        rw [show lz + 8 = lz + 1 + 7 from rfl, pow_add, ← mul_assoc, hshift]
        ring
      rw [if_neg (by omega), if_neg (by omega), hsig, hmag, hscale, Nat.cast_mul, Nat.cast_pow, Nat.cast_ofNat, mul_assoc,
        ← zpow_natCast, ← zpow_add₀ two_ne_zero]
      congr 2
      omega
  · rw [if_neg he] at hmag hscale
    have hexp : hf8.exp x < 16 := Nat.mod_lt _ (by norm_num)
    refine hf8ToFp16_spec_of_pack (by omega) (by omega) (hf8ToFp16_normal hx he hnan) ?_
    have hsig : 2 ^ 10 + x % 8 * 2 ^ 7 = (8 + x % 8) * 2 ^ 7 := by ring
    rw [if_neg (by omega), if_neg (by omega), hsig, hmag, hscale, Nat.cast_mul, Nat.cast_pow, Nat.cast_ofNat, mul_assoc,
      ← zpow_natCast, ← zpow_add₀ two_ne_zero]
    congr 2
    push_cast
    ring

end Hf8

/-! ## Flags and the statement -/

/-- The fields of a byte are those of its number. -/
theorem hf8_denormal_flag (b : BitVec 8) :
    when (hf8.isDenormal b.toNat) flagDE =
      if b.extractLsb' 3 4 = 0 ∧ b.extractLsb' 0 3 ≠ 0 then 2 else 0 := by
  have hexp : b.extractLsb' 3 4 = 0 ↔ hf8.exp b.toNat = 0 := by
    rw [← BitVec.toNat_inj, BitVec.extractLsb'_toNat, Nat.shiftRight_eq_div_pow]
    exact Iff.rfl
  have hfrac : b.extractLsb' 0 3 = 0 ↔ hf8.frac b.toNat = 0 := by
    rw [← BitVec.toNat_inj, BitVec.extractLsb'_toNat, Nat.shiftRight_zero]
    exact Iff.rfl
  simp only [when, Fmt.isDenormal, Bool.and_eq_true, beq_iff_eq, bne_iff_ne, ne_eq, hexp, hfrac]
  rfl

/-- Settles O46: each byte but the NaN is a packed pattern of its sign and value; the form consults the masks, so it
completes when quiet and raises otherwise. -/
theorem hf8ToFp16Results : Obligations.Hf8ToFp16Results := by
  refine ⟨fun x hx => ⟨hf8ToFp16_nan, hf8ToFp16_spec hx⟩, fun vl o s x F hx hF => ?_⟩
  simp only [← hf8_denormal_flag] at hF
  refine ⟨fun hq => execVec_done (elem := hf8ToFp16Elem) hx rfl (words_mul_le vl) hF fun _ => hq, fun hq => ?_⟩
  obtain ⟨hsae, hunmasked⟩ := not_or.1 hq
  exact execVec_raises (elem := hf8ToFp16Elem) hx rfl hF rfl (Bool.eq_false_iff.2 hsae) hunmasked

end Sys2Proof.Machine
end

section
/-! PROOFS. Rounding to a format with gradual underflow: the value rounded to a multiple of a power of two, its pattern and
its flags (spec/40_numerics_helpers.md R135, R147). -/

namespace Sys2Proof.Machine

/-! ## Rounding to a multiple of a power of two (R135) -/

/-- The value rounded to a multiple of `2^g`. -/
def RoundMode.toMultiple (rm : RoundMode) (g : ℤ) (v : ℚ) : ℚ := (rm.toIntegral (v / (2 : ℚ) ^ g) : ℚ) * (2 : ℚ) ^ g

/-- A multiple of `2^g` and nothing else is left as it is. -/
theorem RoundMode.toMultiple_eq_iff (rm : RoundMode) (g : ℤ) (v : ℚ) :
    rm.toMultiple g v = v ↔ ∃ z : ℤ, v / (2 : ℚ) ^ g = z := by
  rw [← rm.toIntegral_eq_iff, RoundMode.toMultiple, eq_div_iff (zpow_ne_zero g two_ne_zero)]

section Rounding

variable (rm : RoundMode) (neg : Bool) (M : ℕ) (e : ℤ)

theorem signedValue_div_zpow (g : ℤ) :
    signedValue neg M e / (2 : ℚ) ^ g = (if neg then -1 else 1) * ((M : ℚ) * (2 : ℚ) ^ (e - g)) := by
  rw [signedValue, zpow_sub₀ two_ne_zero, mul_div_assoc, mul_div_assoc]

theorem signedValue_div_shift (sh : ℕ) :
    signedValue neg M e / (2 : ℚ) ^ (e + sh) = (if neg then -1 else 1) * ((M : ℚ) / 2 ^ sh) := by
  rw [signedValue_div_zpow, sub_add_cancel_left, zpow_neg, zpow_natCast, div_eq_mul_inv]

/-- Rounding away the last `sh` bits of the significand is rounding to a multiple of the new last bit. -/
theorem toMultiple_signedValue (sh : ℕ) :
    rm.toMultiple (e + sh) (signedValue neg M e) = signedValue neg (roundShift rm neg M sh) (e + sh) := by
  rw [RoundMode.toMultiple, signedValue_div_shift, toIntegral_signed_div, signedValue]
  cases neg <;> simp

/-- It changes the value exactly where a bit is lost. -/
theorem toMultiple_signedValue_eq_iff (sh : ℕ) :
    rm.toMultiple (e + sh) (signedValue neg M e) = signedValue neg M e ↔ M % 2 ^ sh = 0 := by
  rw [rm.toMultiple_eq_iff, signedValue_div_shift, signed_eq_intCast_iff, div_two_pow_eq_intCast_iff]

/-- A unit at or below the last bit changes nothing. -/
theorem toMultiple_signedValue_of_le {g : ℤ} (hg : g ≤ e) :
    rm.toMultiple g (signedValue neg M e) = signedValue neg M e := by
  rw [rm.toMultiple_eq_iff, signedValue_div_zpow, signed_eq_intCast_iff, mul_zpow_of_nonneg M (sub_nonneg.2 hg)]
  exact ⟨(M * 2 ^ (e - g).toNat : ℕ), (Int.cast_natCast _).symm⟩

variable {M} {p sh : ℕ}

/-- The shifted significand has at most `p` bits, or it is the next power of two. -/
theorem roundShift_le (h : Nat.log2 M + 1 ≤ p + sh) : roundShift rm neg M sh ≤ 2 ^ p := by
  have hlt : M < 2 ^ sh * 2 ^ p := by
    rw [← pow_add, add_comm]
    exact Nat.lt_log2_self.trans_le (Nat.pow_le_pow_right two_pos h)
  have hquot : M / 2 ^ sh < 2 ^ p := Nat.div_lt_of_lt_mul hlt
  rcases roundShift_eq_or rm neg M sh with h | h <;> omega

/-- A significand that keeps its leading bit is not zero. -/
theorem roundShift_ne_zero (hM : M ≠ 0) (h : sh ≤ Nat.log2 M) : roundShift rm neg M sh ≠ 0 := by
  have hquot : 0 < M / 2 ^ sh := Nat.div_pos (two_pow_log2_le hM h) (Nat.two_pow_pos _)
  rcases roundShift_eq_or rm neg M sh with h | h <;> omega

/-- A significand that is rounded to zero loses its leading bit. -/
theorem log2_lt_of_roundShift_eq_zero (hM : M ≠ 0) (h : roundShift rm neg M sh = 0) : Nat.log2 M < sh := by
  by_contra hle
  exact roundShift_ne_zero rm neg hM (not_lt.1 hle) h

end Rounding

/-! ## The unit of the result -/

section Gradual

variable {f : Fmt} {M : ℕ} {e : ℤ}

/-- The exponent of the last bit of the result: `fbits + 1` significant bits, but not below the least denormal. -/
def Fmt.gradualUnit (f : Fmt) (M : ℕ) (e : ℤ) : ℤ := max (topExp M e - f.fbits) (1 - f.bias - f.fbits)

/-- The bits that rounding with gradual underflow shifts out. -/
def Fmt.gradualShift (f : Fmt) (M : ℕ) (e : ℤ) : ℕ :=
  max (Nat.log2 M + 1 - (f.fbits + 1)) (1 - (f.bias : ℤ) - f.fbits - e).toNat

/-- The significand has the bits of the result, or its last bit is not above that of the least denormal. -/
def Fmt.Fills (f : Fmt) (M : ℕ) (e : ℤ) : Prop := f.fbits ≤ Nat.log2 M ∨ e ≤ 1 - f.bias - f.fbits

theorem Fmt.add_gradualShift (h : f.Fills M e) : e + f.gradualShift M e = f.gradualUnit M e := by
  unfold Fmt.Fills at h
  unfold Fmt.gradualShift Fmt.gradualUnit topExp
  omega

/-- The rounded value and its significand. -/
theorem Fmt.toMultiple_gradualUnit (h : f.Fills M e) (rm : RoundMode) (neg : Bool) :
    rm.toMultiple (f.gradualUnit M e) (signedValue neg M e) =
      signedValue neg (roundShift rm neg M (f.gradualShift M e)) (f.gradualUnit M e) := by
  rw [← Fmt.add_gradualShift h, toMultiple_signedValue]

theorem Fmt.roundShift_gradualShift_le (rm : RoundMode) (neg : Bool) :
    roundShift rm neg M (f.gradualShift M e) ≤ 2 ^ (f.fbits + 1) := by
  refine roundShift_le rm neg ?_
  unfold Fmt.gradualShift
  omega

/-- The value rounded to `fbits + 1` bits with the exponent unbounded; its leading bit moves up by one place at most. -/
theorem toMultiple_topExp (hM : M ≠ 0) (rm : RoundMode) (neg : Bool) :
    ∃ m g, roundPrec rm (f.fbits + 1) neg M e = (m, g) ∧ m ≠ 0 ∧ topExp m g ≤ topExp M e + 1 ∧
      rm.toMultiple (topExp M e - f.fbits) (signedValue neg M e) = signedValue neg m g := by
  have hne : roundShift rm neg M (Nat.log2 M + 1 - (f.fbits + 1)) ≠ 0 := roundShift_ne_zero rm neg hM (by omega)
  refine ⟨_, _, rfl, hne, ?_, ?_⟩
  · have hle : Nat.log2 M + 1 ≤ min (Nat.log2 M + 1) (f.fbits + 1) + (Nat.log2 M + 1 - (f.fbits + 1)) := by omega
    have hlog := (Nat.pow_le_pow_iff_right one_lt_two).1 ((Nat.log2_self_le hne).trans (roundShift_le rm neg hle))
    unfold topExp
    omega
  rw [← toMultiple_signedValue]
  by_cases hlog : f.fbits ≤ Nat.log2 M
  · congr 1
    unfold topExp
    omega
  · have hsh : Nat.log2 M + 1 - (f.fbits + 1) = 0 := by omega
    rw [hsh, toMultiple_signedValue_of_le _ _ _ _ (by unfold topExp; omega),
      toMultiple_signedValue_of_le _ _ _ _ (by simp)]

/-! ## Pattern and flags (R147) -/

theorem Fmt.expOnes_pos (hf : 0 < f.ebits) : 0 < f.expOnes := Nat.pos_of_ne_zero (f.expOnes_ne_zero hf)

/-- A nonzero value has the sign of its pattern. -/
theorem Fmt.sign_of_rat_eq {r m : ℕ} {g : ℤ} {neg : Bool} (hm : m ≠ 0) (h : f.rat r = signedValue neg m g) :
    f.sign r = neg := by
  have hr : f.mag r ≠ 0 := by
    rw [ne_eq, ← f.rat_eq_zero_iff, h, signedValue_eq_zero_iff]
    exact hm
  rw [Bool.eq_iff_iff, signedValue_neg_iff hr (f.sign r) (f.scale r), ← f.rat_eq_signedValue, h, ← signedValue_neg_iff hm]

/-- A signed zero. -/
theorem Fmt.zero_spec (hf : 0 < f.ebits) (neg : Bool) (g : ℤ) :
    f.isFinite (f.zero neg) = true ∧ f.rat (f.zero neg) = signedValue neg 0 g ∧ f.sign (f.zero neg) = neg := by
  refine ⟨Fmt.isFinite_zero hf neg, ?_, Fmt.sign_zero neg⟩
  rw [(f.rat_eq_zero_iff _).2 (Fmt.mag_zero neg), (signedValue_eq_zero_iff neg 0 g).2 rfl]

/-- A significand below the normal numbers, as a denormal. -/
theorem Fmt.pack_denormal_spec (hf : 0 < f.ebits) {q : ℕ} {g : ℤ} (hg : 1 - (f.bias : ℤ) - f.fbits ≤ g)
    (htop : topExp q g < 1 - f.bias) (neg : Bool) :
    let r := f.pack neg 0 (q * 2 ^ (g - (1 - (f.bias : ℤ) - f.fbits)).toNat)
    f.isFinite r = true ∧ f.rat r = signedValue neg q g ∧ f.sign r = neg := by
  obtain ⟨d, rfl⟩ := Int.exists_add_of_le hg
  have hlt : q * 2 ^ d < 2 ^ f.fbits := by
    have hbits : Nat.log2 q + 1 + d ≤ f.fbits := by unfold topExp at htop; omega
    calc q * 2 ^ d < 2 ^ (Nat.log2 q + 1) * 2 ^ d := Nat.mul_lt_mul_of_pos_right Nat.lt_log2_self (Nat.two_pow_pos d)
      _ = 2 ^ (Nat.log2 q + 1 + d) := (pow_add ..).symm
      _ ≤ 2 ^ f.fbits := Nat.pow_le_pow_right two_pos hbits
  rw [add_sub_cancel_left, Int.toNat_natCast]
  obtain ⟨hfin, hsign, hrat⟩ := Fmt.pack_spec neg (f.expOnes_pos hf) hlt
  refine ⟨hfin, hrat.trans ?_, hsign⟩
  rw [if_pos rfl, if_pos rfl, signedValue, signedValue, zpow_add₀ two_ne_zero, zpow_natCast]
  push_cast
  ring

/-- Below the range of the infinities the result has the rounded value and the sign. -/
theorem Fmt.roundGradual_fst (hf : 0 < f.ebits) (h : f.Fills M e) {rm : RoundMode} {neg : Bool} {q : ℕ}
    (hq : roundShift rm neg M (f.gradualShift M e) = q) (hlt : (q : ℚ) * 2 ^ f.gradualUnit M e < 2 ^ (f.bias + 1 : ℤ)) :
    let r := (f.roundGradual rm neg M e).1
    f.isFinite r = true ∧ f.rat r = signedValue neg q (f.gradualUnit M e) ∧ f.sign r = neg := by
  have hle : q ≤ 2 ^ (f.fbits + 1) := hq ▸ Fmt.roundShift_gradualShift_le rm neg
  have hg : 1 - (f.bias : ℤ) - f.fbits ≤ f.gradualUnit M e := le_max_right _ _
  have hunit := Fmt.add_gradualShift h
  unfold Fmt.gradualShift at hq hunit
  simp only [Fmt.roundGradual, hq, hunit]
  generalize f.gradualUnit M e = g at *
  split
  next hzero =>
    subst hzero
    exact Fmt.zero_spec hf neg g
  next hne =>
    have htop : topExp q g < f.bias + 1 := (topExp_lt_iff hne g _).2 hlt
    rw [if_neg (by omega)]
    split
    next hlow => exact Fmt.pack_denormal_spec hf hg hlow neg
    next hlow =>
      obtain ⟨hfin, -, hrat⟩ := Fmt.normal_spec (e := g) hf hne hle (by omega) (by omega) neg
      exact ⟨hfin, hrat, Fmt.sign_of_rat_eq hne hrat⟩

/-- In the range of the infinities: the infinity or the largest number, by the direction of rounding. -/
theorem Fmt.roundGradual_overflow (h : f.Fills M e) {rm : RoundMode} {neg : Bool} {q : ℕ}
    (hq : roundShift rm neg M (f.gradualShift M e) = q) (hle : 2 ^ (f.bias + 1 : ℤ) ≤ (q : ℚ) * 2 ^ f.gradualUnit M e) :
    f.roundGradual rm neg M e =
      (if rm = .rne ∨ rm = .rup ∧ neg = false ∨ rm = .rdn ∧ neg = true then f.inf neg else f.maxFinite neg,
        flagOE ||| flagPE) := by
  have hunit := Fmt.add_gradualShift h
  unfold Fmt.gradualShift at hq hunit
  simp only [Fmt.roundGradual, hq, hunit]
  have hne : q ≠ 0 := by
    rintro rfl
    rw [Nat.cast_zero, zero_mul] at hle
    exact absurd hle (not_le.2 (by positivity))
  have htop : (f.bias : ℤ) < topExp q (f.gradualUnit M e) := by
    have := mt (topExp_lt_iff hne (f.gradualUnit M e) _).1 (not_lt.2 hle)
    omega
  rw [if_neg hne, if_pos htop]
  simp [or_assoc]

/-- Below the range of the infinities PE reports a change, and UE with it where rounding to `fbits + 1` bits stays below the
normal numbers. -/
theorem Fmt.roundGradual_snd (hfrac : 0 < f.fbits) (hM : M ≠ 0) (h : f.Fills M e) {rm : RoundMode} {neg : Bool} {q : ℕ}
    (hq : roundShift rm neg M (f.gradualShift M e) = q) (hlt : (q : ℚ) * 2 ^ f.gradualUnit M e < 2 ^ (f.bias + 1 : ℤ)) :
    let v := signedValue neg M e
    (f.roundGradual rm neg M e).2 =
      if rm.toMultiple (f.gradualUnit M e) v = v then 0
      else if |rm.toMultiple (topExp M e - f.fbits) v| < (2 : ℚ) ^ (1 - f.bias : ℤ) then flagUE ||| flagPE
      else flagPE := by
  intro v
  have hexact : rm.toMultiple (f.gradualUnit M e) v = v ↔ M % 2 ^ f.gradualShift M e = 0 := by
    rw [← Fmt.add_gradualShift h]
    exact toMultiple_signedValue_eq_iff rm neg M e _
  obtain ⟨u, k, hu, hune, htop, hval⟩ := toMultiple_topExp (f := f) (e := e) hM rm neg
  have htiny : |rm.toMultiple (topExp M e - f.fbits) v| < (2 : ℚ) ^ (1 - f.bias : ℤ) ↔ topExp u k < 1 - f.bias := by
    rw [hval, abs_signedValue, topExp_lt_iff hune]
  have hunit := Fmt.add_gradualShift h
  have hzero : q = 0 → topExp u k < 1 - f.bias := by
    intro hq0
    have hlog := log2_lt_of_roundShift_eq_zero rm neg hM (hq.trans hq0)
    unfold Fmt.gradualUnit topExp at hunit
    unfold topExp at htop ⊢
    omega
  have hflags : (f.roundGradual rm neg M e).2 =
      when (M % 2 ^ f.gradualShift M e != 0) (when (topExp u k < 1 - f.bias) flagUE ||| flagPE) := by
    unfold Fmt.gradualShift at hq hunit ⊢
    simp only [Fmt.roundGradual, hq, hunit, hu]
    split
    next hq0 => simp [when, hzero hq0]
    next hne =>
      have hrange : ¬ (f.bias : ℤ) < topExp q (f.gradualUnit M e) := by
        have := (topExp_lt_iff hne (f.gradualUnit M e) _).2 hlt
        omega
      rw [if_neg hrange]
      split <;> rfl
  rw [hflags]
  simp only [hexact, htiny, when, bne_iff_ne, ne_eq, ite_not, decide_eq_true_eq]
  split
  · rfl
  split
  · rfl
  · exact BitVec.zero_or

end Gradual

end Sys2Proof.Machine
end

section
/-! PROOFS. FP32 to FP16 by the class of the source, and the statement on VCVT2PS2PHX (spec/40_numerics_helpers.md R147,
spec/44_convert_fp8.md R290). -/

namespace Sys2Proof.Machine

/-! ## NaNs, infinities and zeros -/

/-- The sign bit of a packed pattern. -/
theorem Fmt.pack_div_sign {f : Fmt} {e m : ℕ} (neg : Bool) (he : e < 2 ^ f.ebits) (hm : m < 2 ^ f.fbits) :
    f.pack neg e m / 2 ^ (f.ebits + f.fbits) = neg.toNat := by
  rw [add_comm, pow_add, ← Nat.div_div_eq_div_mul, Fmt.pack_div neg hm, Nat.mul_add_div (Nat.two_pow_pos _),
    Nat.div_eq_of_lt he, add_zero]

/-- A packed NaN with the most significant fraction bit set is quiet. -/
theorem Fmt.isQNaN_pack {f : Fmt} {m : ℕ} (neg : Bool) (hfrac : 0 < f.fbits) (hm : m < 2 ^ f.fbits)
    (hbit : m.testBit (f.fbits - 1) = true) : f.isQNaN (f.pack neg f.expOnes m) = true := by
  have htest : (f.pack neg f.expOnes m).testBit (f.fbits - 1) = true := by
    rw [← hbit, ← Fmt.frac_pack neg hm, Fmt.frac, Nat.testBit_mod_two_pow, decide_eq_true (by omega), Bool.true_and,
      ← Fmt.frac, Fmt.frac_pack neg hm]
  have hne : m ≠ 0 := by
    rintro rfl
    simp at hbit
  simp [Fmt.isQNaN, Fmt.isNaN, Fmt.exp_pack neg f.expOnes_lt hm, Fmt.frac_pack neg hm, hne, htest]

section Convert

variable {rm : RoundMode} {daz : Bool} {x : ℕ}

theorem fp32_sign_toNat (hx : x < 2 ^ 32) : (fp32.sign x).toNat = x / 2 ^ 31 := by
  have hsign : fp32.sign x = decide (x / 2 ^ 31 % 2 = 1) := Nat.testBit_eq_decide_div_mod_eq
  have hbit : x / 2 ^ 31 = 0 ∨ x / 2 ^ 31 = 1 := by omega
  rw [hsign]
  rcases hbit with h | h <;> rw [h] <;> rfl

theorem fp32ToFp16_inf (h : fp32.isInf x = true) : fp32ToFp16 rm daz x = (fp16.inf (fp32.sign x), 0) := if_pos h

/-- The fraction of a converted NaN: the upper bits of the source, the first of them set. -/
def fp16NanFrac (x : ℕ) : ℕ := (fp32.frac x ||| 2 ^ 22) / 2 ^ 13

theorem testBit_fp16NanFrac (x i : ℕ) :
    (fp16NanFrac x).testBit i = (decide (i < 10) && x.testBit (i + 13) || decide (i = 9)) := by
  have hfrac : fp32.frac x = x % 2 ^ 23 := rfl
  have hlow : i + 13 < 23 ↔ i < 10 := by omega
  have htop : 22 = i + 13 ↔ i = 9 := by omega
  simp only [fp16NanFrac, Nat.testBit_div_two_pow, Nat.testBit_or, hfrac, Nat.testBit_mod_two_pow, Nat.testBit_two_pow, hlow,
    htop]

theorem fp16NanFrac_lt (x : ℕ) : fp16NanFrac x < 2 ^ 10 :=
  Nat.div_lt_of_lt_mul (Nat.or_lt_two_pow (n := 23) (Nat.mod_lt _ (by norm_num)) (by norm_num))

theorem fp16NanFrac_mod (x : ℕ) : fp16NanFrac x % 2 ^ 9 = x / 2 ^ 13 % 2 ^ 9 := by
  refine Nat.eq_of_testBit_eq fun i => ?_
  rw [Nat.testBit_mod_two_pow, Nat.testBit_mod_two_pow, testBit_fp16NanFrac, Nat.testBit_div_two_pow]
  by_cases hi : i < 9
  · simp [show i < 10 by omega, show i ≠ 9 by omega]
  · simp [hi]

theorem fp32ToFp16_nan_eq (h : fp32.isNaN x = true) :
    fp32ToFp16 rm daz x =
      (fp16.pack (fp32.sign x) fp16.expOnes (fp16NanFrac x), when (fp32.isSNaN x) flagIE) := by
  have hinf : fp32.isInf x = false :=
    Bool.eq_false_iff.2 fun hinf => by simp [Fmt.isNaN_eq_false_of_isInf hinf] at h
  simp only [fp32ToFp16, hinf, h, if_true]
  rfl

/-- A NaN is quieted and keeps its sign and the upper bits of its fraction. -/
theorem fp32ToFp16_nan (hx : x < 2 ^ 32) (h : fp32.isNaN x = true) :
    let r := fp32ToFp16 rm daz x
    fp16.isQNaN r.1 = true ∧ r.1 / 2 ^ 15 = x / 2 ^ 31 ∧ r.1 % 2 ^ 9 = x / 2 ^ 13 % 2 ^ 9 ∧
      r.2 = if fp32.isSNaN x then 1 else 0 := by
  have hlt : fp16NanFrac x < 2 ^ fp16.fbits := fp16NanFrac_lt x
  have hfrac : fp16.pack (fp32.sign x) fp16.expOnes (fp16NanFrac x) % 2 ^ 10 = fp16NanFrac x := Fmt.frac_pack _ hlt
  rw [fp32ToFp16_nan_eq h]
  refine ⟨Fmt.isQNaN_pack _ (by decide) hlt ?_, ?_, ?_, rfl⟩
  · simp [testBit_fp16NanFrac, fp16]
  · rw [← fp32_sign_toNat hx]
    exact Fmt.pack_div_sign (f := fp16) _ fp16.expOnes_lt hlt
  · rw [← fp16NanFrac_mod, ← congrArg (· % 2 ^ 9) hfrac]
    exact (Nat.mod_mod_of_dvd _ (pow_dvd_pow 2 (by norm_num : 9 ≤ 10))).symm

theorem fp32ToFp16_zero (h : fp32.isZero x = true ∨ daz = true ∧ fp32.isDenormal x = true) :
    fp32ToFp16 rm daz x = (fp16.zero (fp32.sign x), 0) := by
  have he : fp32.exp x = 0 := by
    simp only [Fmt.isZero, Fmt.isDenormal, Bool.and_eq_true, beq_iff_eq] at h
    exact h.elim And.left fun h => h.2.1
  have hzero : (fp32.isZero x || daz && fp32.isDenormal x) = true := by simpa using h
  simp [fp32ToFp16, Fmt.isInf_of_exp_zero (f := fp32) (by decide) he, Fmt.isNaN_of_exp_zero (f := fp32) (by decide) he,
    hzero]

/-! ## Numbers -/

/-- A number that is not treated as a zero is rounded, and a denormal records DE. -/
theorem fp32ToFp16_number (hfin : fp32.isFinite x = true) (hzero : fp32.isZero x = false)
    (hdaz : ¬ (daz = true ∧ fp32.isDenormal x = true)) :
    fp32ToFp16 rm daz x =
      ((fp16.roundGradual rm (fp32.sign x) (fp32.mag x) (fp32.scale x)).1,
        when (fp32.isDenormal x) flagDE ||| (fp16.roundGradual rm (fp32.sign x) (fp32.mag x) (fp32.scale x)).2) := by
  have hclass : (fp32.isZero x || daz && fp32.isDenormal x) = false := by simpa [hzero] using hdaz
  simp [fp32ToFp16, Fmt.isInf_of_isFinite hfin, Fmt.isNaN_of_isFinite hfin, hclass]

/-- A normal number has more bits than the result, a denormal lies below its least one. -/
theorem fp32_fills (x : ℕ) : fp16.Fills (fp32.mag x) (fp32.scale x) := by
  by_cases he : fp32.exp x = 0
  · right
    rw [Fmt.scale, if_pos he]
    decide
  · left
    rw [Fmt.mag, if_neg he]
    exact (Nat.le_log2 (by positivity)).2 ((by norm_num : 2 ^ 10 ≤ 2 ^ 23).trans (Nat.le_add_right _ _))

/-- No 11 bits and no power of two are between the largest number and the range of the infinities. -/
theorem max_lt_iff_two_pow_le {q : ℕ} (hq : q ≤ 2 ^ 11) (g : ℤ) :
    65504 < (q : ℚ) * 2 ^ g ↔ (2 : ℚ) ^ (16 : ℤ) ≤ (q : ℚ) * 2 ^ g := by
  rcases le_or_gt 5 g with hg | hg
  · obtain ⟨d, rfl⟩ := Int.exists_add_of_le hg
    have hval : (q : ℚ) * 2 ^ (5 + d : ℤ) = (32 * (q * 2 ^ d) : ℕ) := by
      rw [zpow_add₀ two_ne_zero, zpow_natCast]
      push_cast
      ring
    rw [hval]
    norm_cast
    omega
  · have hlt : (q : ℚ) * 2 ^ g ≤ 2 ^ 11 * 2 ^ (4 : ℤ) :=
      mul_le_mul (by exact_mod_cast hq) (zpow_le_zpow_right₀ one_le_two (by omega)) (by positivity) (by positivity)
    norm_num at hlt ⊢
    constructor <;> intro h <;> linarith

/-- A value lies in one binade only. -/
theorem topExp_eq_of_bounds {m : ℕ} {g e : ℤ} (hm : m ≠ 0) (hlo : (2 : ℚ) ^ e ≤ m * 2 ^ g)
    (hhi : (m : ℚ) * 2 ^ g < 2 ^ (e + 1)) : topExp m g = e := by
  have hup := (topExp_lt_iff hm g _).2 hhi
  have hdown := mt (topExp_lt_iff hm g _).1 (not_lt.2 hlo)
  omega

/-- The result and the flags of a number in the binade of `e`, by the rounded value. -/
theorem fp32ToFp16_rounded (hfin : fp32.isFinite x = true) (hzero : fp32.isZero x = false)
    (hdaz : ¬ (daz = true ∧ fp32.isDenormal x = true)) {e : ℤ} (hlo : (2 : ℚ) ^ e ≤ |fp32.rat x|)
    (hhi : |fp32.rat x| < (2 : ℚ) ^ (e + 1)) :
    let r := fp32ToFp16 rm daz x
    let de : Flags := if fp32.isDenormal x then 2 else 0
    let y := rm.toMultiple (max (e - 10) (-24)) (fp32.rat x)
    (65504 < |y| →
      r = (if rm = .rne ∨ rm = .rup ∧ fp32.sign x = false ∨ rm = .rdn ∧ fp32.sign x = true then fp16.inf (fp32.sign x)
        else fp16.maxFinite (fp32.sign x), de ||| 0x28)) ∧
    (|y| ≤ 65504 → fp16.isFinite r.1 = true ∧ fp16.rat r.1 = y ∧ fp16.sign r.1 = fp32.sign x ∧
      r.2 = de ||| (if y = fp32.rat x then 0
        else if |rm.toMultiple (e - 10) (fp32.rat x)| < (2 : ℚ) ^ (-14 : ℤ) then 0x30 else 0x20)) := by
  intro r de y
  have hM : fp32.mag x ≠ 0 := mt (fp32.isZero_iff_mag x).2 (Bool.eq_false_iff.1 hzero)
  have hfills := fp32_fills x
  rw [fp32.abs_rat] at hlo hhi
  have htop := topExp_eq_of_bounds hM hlo hhi
  have hunit : fp16.gradualUnit (fp32.mag x) (fp32.scale x) = max (e - 10) (-24) := by
    rw [Fmt.gradualUnit, htop]
    rfl
  have hr : r = _ := fp32ToFp16_number hfin hzero hdaz
  obtain ⟨q, hq⟩ : ∃ q, roundShift rm (fp32.sign x) (fp32.mag x) (fp16.gradualShift (fp32.mag x) (fp32.scale x)) = q :=
    ⟨_, rfl⟩
  have hy : y = signedValue (fp32.sign x) q (max (e - 10) (-24)) := by
    rw [← hunit, ← hq, ← Fmt.toMultiple_gradualUnit hfills, hunit, ← fp32.rat_eq_signedValue]
  have hqle : q ≤ 2 ^ 11 := hq ▸ Fmt.roundShift_gradualShift_le (f := fp16) rm (fp32.sign x)
  have hmax : 65504 < |y| ↔ (2 : ℚ) ^ (fp16.bias + 1 : ℤ) ≤ (q : ℚ) * 2 ^ fp16.gradualUnit (fp32.mag x) (fp32.scale x) := by
    rw [hy, hunit, abs_signedValue]
    exact max_lt_iff_two_pow_le hqle _
  refine ⟨fun hover => ?_, fun hle => ?_⟩
  · rw [hr, Fmt.roundGradual_overflow hfills hq (hmax.1 hover)]
    rfl
  · have hlt := not_le.1 (mt hmax.2 (not_lt.2 hle))
    obtain ⟨hfinite, hrat, hsign⟩ := Fmt.roundGradual_fst (f := fp16) (by decide) hfills hq hlt
    have hflags := Fmt.roundGradual_snd (f := fp16) (by decide) hM hfills hq hlt
    rw [hr]
    refine ⟨hfinite, by rw [hrat, hy, hunit], hsign, ?_⟩
    simp only [hflags, hunit, htop, ← fp32.rat_eq_signedValue]
    rfl

end Convert

/-! ## The statement -/

/-- Settles O47: the form is in a class that does not consult the masks; an element is special or the rounded number. -/
theorem vcvt2ps2phxResult : Obligations.Vcvt2ps2phxResult := by
  refine ⟨fun vl o s x F hx => ?_, fun rm daz x hx => ?_⟩
  · exact execVec_unmaskable_done (elem := fp16Pair (vl.bits / 32) (s.roundMode o.rm.loc) s.daz) hx rfl (words_mul_le vl) rfl
  · exact ⟨fp32ToFp16_inf, fp32ToFp16_nan hx, fp32ToFp16_zero, fun hfin hzero hdaz e hlo hhi =>
      fp32ToFp16_rounded hfin hzero hdaz hlo hhi⟩

end Sys2Proof.Machine
end

section
/-! PROOFS. The integer dot products: completion and the accumulated doubleword, and the statements on the byte and the word
forms (spec/45_vnni_media.md R313 to R328). -/

namespace Sys2Proof.Machine

/-! ## Accumulation (R313, R320, R321) -/

/-- The overflow behaviour that a mnemonic names: a saturating form is signed unless both factors are unsigned (R321). -/
def Saturation.ofForm (signed1 signed2 saturating : Bool) : Saturation :=
  if saturating then (if signed1 || signed2 then .signed else .unsigned) else .wrap

theorem signedDword_eq_clamp (x : ℤ) : signedDword x = BitVec.ofInt 32 (max (-2 ^ 31) (min (2 ^ 31 - 1) x)) := by
  unfold signedDword
  split
  next hover => rw [min_eq_left hover.le]; rfl
  next hle =>
    rw [min_eq_right (not_lt.1 hle)]
    split
    next hunder => rw [max_eq_left hunder.le]; rfl
    next hge => rw [max_eq_right (not_lt.1 hge)]

theorem unsignedDword_eq_min (x : ℤ) : unsignedDword x = BitVec.ofInt 32 (min (2 ^ 32 - 1) x) := by
  unfold unsignedDword
  split
  next hover => rw [min_eq_left hover.le]; rfl
  next hle => rw [min_eq_right (not_lt.1 hle)]

/-- The new doubleword of a form. -/
theorem accumulate_ofForm (signed1 signed2 saturating : Bool) (old : BitVec 32) (p : ℤ) :
    accumulate (.ofForm signed1 signed2 saturating) old p =
      if saturating then
        if signed1 || signed2 then BitVec.ofInt 32 (max (-2 ^ 31) (min (2 ^ 31 - 1) (old.toInt + p)))
        else BitVec.ofInt 32 (min (2 ^ 32 - 1) ((old.toNat : ℤ) + p))
      else old + BitVec.ofInt 32 p := by
  rw [← signedDword_eq_clamp, ← unsignedDword_eq_min]
  cases saturating
  · simp [Saturation.ofForm, accumulate, BitVec.ofInt_add]
  · cases h : signed1 || signed2 <;> simp [Saturation.ofForm, h, accumulate]

/-! ## Completion -/

theorem dwords_mul_le (vl : VL) : 32 * (vl.bits / 32) ≤ 512 := by cases vl <;> decide

/-- The instruction adds `n` products of `w`-bit elements to each doubleword, with the extensions and the overflow of its
name. -/
structure DotsElements (i : Instr) (vl : VL) (o : VecOp3) (w n : ℕ) (signed1 signed2 saturating : Bool) : Prop where
  raw_eq : i.parts.raw = o.raw
  exec_eq : ∀ s, exec i s = execVec i.parts.op i.parts.vl i.parts.raw 32 (vl.bits / 32)
    (silent (dotElem w n signed1 signed2 (.ofForm signed1 signed2 saturating))) s

/-- A dot product completes with the accumulated doublewords. -/
theorem DotsElements.done {i : Instr} {s : State} {x : Zmm} {vl : VL} {o : VecOp3} {w n : ℕ}
    {signed1 signed2 saturating : Bool} (h : DotsElements i vl o w n signed1 signed2 saturating) (hx : Runs i s x) :
    VectorDone i s 0 32 (vl.bits / 32) fun j =>
      let p := dotSum w signed1 signed2 (s.vec o.src1) x (n * j) n
      let old := lane 32 j (s.vec o.dest)
      if saturating then
        if signed1 || signed2 then BitVec.ofInt 32 (max (-2 ^ 31) (min (2 ^ 31 - 1) (old.toInt + p)))
        else BitVec.ofInt 32 (min (2 ^ 32 - 1) ((old.toNat : ℤ) + p))
      else old + BitVec.ofInt 32 p := by
  have hdone := execVec_silent_done hx (h.exec_eq s) (dwords_mul_le vl)
  rw [h.raw_eq] at hdone
  simp only [← accumulate_ofForm]
  exact hdone

/-- Four products, in the order of their elements. -/
theorem dotSum_four (w : ℕ) (signed1 signed2 : Bool) (a b : Zmm) (i : ℕ) :
    let term : ℕ → ℤ := fun n => extend signed1 (lane w (i + n) a) * extend signed2 (lane w (i + n) b)
    dotSum w signed1 signed2 a b i 4 = term 0 + term 1 + term 2 + term 3 := by
  simp only [dotSum, zero_add]

/-- Two products, in the order of their elements. -/
theorem dotSum_two (w : ℕ) (signed1 signed2 : Bool) (a b : Zmm) (i : ℕ) :
    let term : ℕ → ℤ := fun n => extend signed1 (lane w (i + n) a) * extend signed2 (lane w (i + n) b)
    dotSum w signed1 signed2 a b i 2 = term 0 + term 1 := by
  simp only [dotSum, zero_add]

/-! ## The statements -/

section Forms

variable {c : VL → VecOp3 → Instr} {op : Op} {signed1 signed2 saturating : Bool} {pp : BitVec 2} {opcode : BitVec 8}

/-- Each of the six byte forms (R314 to R319). -/
theorem dotsBytes_of_mem
    (h : (c, op, signed1, signed2, saturating, pp, opcode) ∈
      [(Instr.vpdpbssd, Op.vpdpbssd, true, true, false, 3#2, 0x50#8), (Instr.vpdpbssds, .vpdpbssds, true, true, true, 3, 0x51),
       (Instr.vpdpbsud, .vpdpbsud, true, false, false, 2, 0x50), (Instr.vpdpbsuds, .vpdpbsuds, true, false, true, 2, 0x51),
       (Instr.vpdpbuud, .vpdpbuud, false, false, false, 0, 0x50),
       (Instr.vpdpbuuds, .vpdpbuuds, false, false, true, 0, 0x51)]) :
    (op.code = (2, pp, false, opcode) ∧ op.info.cls = .e4 ∧ op.info.bcst = true ∧ op.info.elem = 4) ∧
      ∀ vl o, (c vl o).op = op ∧ DotsElements (c vl o) vl o 8 4 signed1 signed2 saturating := by
  simp only [List.mem_cons, Prod.mk.injEq, List.not_mem_nil, or_false] at h
  rcases h with ⟨rfl, rfl, rfl, rfl, rfl, rfl, rfl⟩ | ⟨rfl, rfl, rfl, rfl, rfl, rfl, rfl⟩ |
    ⟨rfl, rfl, rfl, rfl, rfl, rfl, rfl⟩ | ⟨rfl, rfl, rfl, rfl, rfl, rfl, rfl⟩ | ⟨rfl, rfl, rfl, rfl, rfl, rfl, rfl⟩ |
    ⟨rfl, rfl, rfl, rfl, rfl, rfl, rfl⟩ <;>
    exact ⟨⟨rfl, rfl, rfl, rfl⟩, fun _ _ => ⟨rfl, rfl, fun _ => rfl⟩⟩

/-- Each of the six word forms (R323 to R328). -/
theorem dotsWords_of_mem
    (h : (c, op, signed1, signed2, saturating, pp, opcode) ∈
      [(Instr.vpdpwsud, Op.vpdpwsud, true, false, false, 2#2, 0xD2#8), (Instr.vpdpwsuds, .vpdpwsuds, true, false, true, 2, 0xD3),
       (Instr.vpdpwusd, .vpdpwusd, false, true, false, 1, 0xD2), (Instr.vpdpwusds, .vpdpwusds, false, true, true, 1, 0xD3),
       (Instr.vpdpwuud, .vpdpwuud, false, false, false, 0, 0xD2),
       (Instr.vpdpwuuds, .vpdpwuuds, false, false, true, 0, 0xD3)]) :
    (op.code = (2, pp, false, opcode) ∧ op.info.cls = .e4 ∧ op.info.bcst = true ∧ op.info.elem = 4) ∧
      ∀ vl o, (c vl o).op = op ∧ DotsElements (c vl o) vl o 16 2 signed1 signed2 saturating := by
  simp only [List.mem_cons, Prod.mk.injEq, List.not_mem_nil, or_false] at h
  rcases h with ⟨rfl, rfl, rfl, rfl, rfl, rfl, rfl⟩ | ⟨rfl, rfl, rfl, rfl, rfl, rfl, rfl⟩ |
    ⟨rfl, rfl, rfl, rfl, rfl, rfl, rfl⟩ | ⟨rfl, rfl, rfl, rfl, rfl, rfl, rfl⟩ | ⟨rfl, rfl, rfl, rfl, rfl, rfl, rfl⟩ |
    ⟨rfl, rfl, rfl, rfl, rfl, rfl, rfl⟩ <;>
    exact ⟨⟨rfl, rfl, rfl, rfl⟩, fun _ _ => ⟨rfl, rfl, fun _ => rfl⟩⟩

end Forms

/-- Settles O48: each form is the dot product of four bytes with the extensions and the overflow of its row. -/
theorem byteDotResults : Obligations.ByteDotResults := by
  intro c op signed1 signed2 saturating pp opcode hc
  obtain ⟨⟨hcode, hcls, hbcst, helem⟩, hform⟩ := dotsBytes_of_mem hc
  refine ⟨hcode, hcls, hbcst, helem, fun vl o s x hx => ⟨(hform vl o).1, ?_⟩⟩
  have hdone := (hform vl o).2.done hx
  simp only [dotSum_four] at hdone
  exact hdone

/-- Settles O49: each form is the dot product of two words with the extensions and the overflow of its row. -/
theorem wordDotResults : Obligations.WordDotResults := by
  intro c op signed1 signed2 saturating pp opcode hc
  obtain ⟨⟨hcode, hcls, hbcst, helem⟩, hform⟩ := dotsWords_of_mem hc
  refine ⟨hcode, hcls, hbcst, helem, fun vl o s x hx => ⟨(hform vl o).1, ?_⟩⟩
  have hdone := (hform vl o).2.done hx
  simp only [dotSum_two] at hdone
  exact hdone

end Sys2Proof.Machine
end

section
/-! PROOFS. VMPSADBW: the fields of its control, the sums of absolute differences, and the statement
(spec/45_vnni_media.md R312). -/

namespace Sys2Proof.Machine

/-! ## The control of a lane -/

/-- imm8[2:0] in even lanes, imm8[5:3] in odd ones. -/
def mpsadControl (imm : BitVec 8) (group : ℕ) : BitVec 3 :=
  if group % 2 = 0 then imm.extractLsb' 0 3 else imm.extractLsb' 3 3

theorem toNat_mpsadControl (imm : BitVec 8) (group : ℕ) :
    (mpsadControl imm group).toNat = if group % 2 = 0 then imm.toNat % 8 else imm.toNat / 8 % 8 := by
  unfold mpsadControl
  split
  · rw [BitVec.extractLsb'_toNat, Nat.shiftRight_zero]
  · rw [BitVec.extractLsb'_toNat, Nat.shiftRight_eq_div_pow]

/-- The offset in the first source is four times the top bit of the control. -/
theorem blk1_eq (control : BitVec 3) : (if control.getLsbD 2 then 4 else 0) = control.toNat / 4 * 4 := by
  revert control
  decide

/-- The offset in the second source is four times the low bits of the control. -/
theorem blk2_eq (control : BitVec 3) : (control.extractLsb' 0 2).toNat * 4 = control.toNat % 4 * 4 := by
  rw [BitVec.extractLsb'_toNat, Nat.shiftRight_zero]

/-! ## The sums -/

theorem absDiff_eq_natAbs (a b : Byte) : absDiff a b = ((a.toNat : ℤ) - (b.toNat : ℤ)).natAbs := by
  simp only [absDiff, BitVec.le_def]
  split <;> omega

/-- A byte of a 128-bit lane. -/
theorem lane_byte_of_group (group n : ℕ) (v : Zmm) :
    v.extractLsb' (128 * group + 8 * n) 8 = lane 8 (group * 16 + n) v := by
  rw [lane, show 8 * (group * 16 + n) = 128 * group + 8 * n by ring]

/-- Word `k` is the sum of four absolute differences of bytes of its lane. -/
theorem mpsad_eq_sum (imm : BitVec 8) (a b : Zmm) (k : ℕ) :
    let control := mpsadControl imm (k / 8)
    let byte : Zmm → ℕ → ℤ := fun v n => ((v.extractLsb' (128 * (k / 8) + 8 * n) 8).toNat : ℤ)
    let term : ℕ → ℕ := fun n =>
      (byte a ((if control.getLsbD 2 then 4 else 0) + k % 8 + n) -
        byte b ((control.extractLsb' 0 2).toNat * 4 + n)).natAbs
    mpsad imm a b k = term 0 + term 1 + term 2 + term 3 := by
  simp only [blk1_eq, blk2_eq, toNat_mpsadControl, lane_byte_of_group, ← absDiff_eq_natAbs, mpsad, add_assoc, add_zero]

/-! ## The statement -/

/-- Settles O51: the form completes with its element function, which is the sum of each word. -/
theorem vmpsadbwResult : Obligations.VmpsadbwResult := by
  refine ⟨rfl, rfl, rfl, fun vl o imm s x hx => ?_⟩
  have hdone : VectorDone (.vmpsadbw vl o imm) s 0 16 (vl.bits / 16) fun k =>
      BitVec.ofNat 16 (mpsad imm (s.vec o.src1) x k) :=
    execVec_silent_done (elem := mpsadElem imm) hx rfl (words_mul_le vl)
  simp only [mpsad_eq_sum] at hdone
  exact hdone

end Sys2Proof.Machine
end

section
/-! PROOFS. VDPHPHS: the exact conversion of FP16 to FP32, the order of the NaNs and of the accumulations, and the statement
(spec/40_numerics_helpers.md R148, spec/45_vnni_media.md R311). -/

namespace Sys2Proof.Machine

/-! ## FP16 to FP32 (R148) -/

section Convert

variable {x : ℕ}

/-- Setting the first fraction bit of a packed pattern sets it in the fraction. -/
theorem Fmt.quiet_pack {f : Fmt} (hfrac : 0 < f.fbits) (neg : Bool) (e : ℕ) {m : ℕ} (hm : m < 2 ^ f.fbits) :
    f.quiet (f.pack neg e m) = f.pack neg e (m ||| 2 ^ (f.fbits - 1)) := by
  have hbit : 2 ^ (f.fbits - 1) < 2 ^ f.fbits := Nat.pow_lt_pow_right one_lt_two (by omega)
  rw [Fmt.quiet, Fmt.pack_eq, Fmt.pack_eq, Nat.two_pow_add_eq_or_of_lt hm, Nat.or_assoc,
    ← Nat.two_pow_add_eq_or_of_lt (Nat.or_lt_two_pow hm hbit)]

theorem fp16ToFp32_inf (h : fp16.isInf x = true) : fp16ToFp32 x = fp32.inf (fp16.sign x) := by
  simp [fp16ToFp32, Fmt.isNaN_eq_false_of_isInf h, Fmt.value, h, Fmt.roundFtz]

/-- A NaN is quieted and keeps its sign. -/
theorem fp16ToFp32_nan (h : fp16.isNaN x = true) :
    fp32.isQNaN (fp16ToFp32 x) = true ∧ fp32.sign (fp16ToFp32 x) = fp16.sign x := by
  have hfrac : fp16.frac x * 2 ^ 13 < 2 ^ fp32.fbits :=
    Nat.mul_lt_mul_of_pos_right (Nat.mod_lt x (by decide : 0 < 2 ^ 10)) (by decide : 0 < 2 ^ 13)
  have hquiet : fp16.frac x * 2 ^ 13 ||| 2 ^ 22 < 2 ^ fp32.fbits := Nat.or_lt_two_pow hfrac (by decide)
  have hpack : fp16ToFp32 x = fp32.pack (fp16.sign x) fp32.expOnes (fp16.frac x * 2 ^ 13 ||| 2 ^ 22) :=
    (if_pos h).trans (Fmt.quiet_pack (f := fp32) (by decide) _ _ hfrac)
  rw [hpack]
  refine ⟨Fmt.isQNaN_pack _ (by decide) hquiet ?_, Fmt.sign_pack _ fp32.expOnes_lt hquiet⟩
  rw [Nat.testBit_or, show fp32.fbits - 1 = 22 from rfl, Nat.testBit_two_pow_self, Bool.or_true]

theorem fp16_mag_lt (x : ℕ) : fp16.mag x < 2 ^ 11 := by
  have hfrac : x % 1024 < 1024 := Nat.mod_lt x (by decide)
  rw [fp16_mag, fp16_frac]
  split <;> omega

/-- The nonzero numbers of FP16 are in the normal range of FP32. -/
theorem fp16_normal_in_fp32 (hmag : fp16.mag x ≠ 0) :
    (2 : ℚ) ^ (1 - (fp32.bias : ℤ)) ≤ |fp16.rat x| ∧ |fp16.rat x| < (2 : ℚ) ^ (1 + (fp32.bias : ℤ)) := by
  have hexp : fp16.exp x < 32 := Nat.mod_lt _ (by decide)
  have hlow : (-24 : ℤ) ≤ fp16.scale x := by rw [fp16_scale]; split <;> omega
  have hhigh : fp16.scale x ≤ 6 := by rw [fp16_scale]; split <;> omega
  rw [fp16.abs_rat]
  constructor
  · have hone : (1 : ℚ) ≤ fp16.mag x := by exact_mod_cast Nat.pos_of_ne_zero hmag
    calc (2 : ℚ) ^ (1 - (fp32.bias : ℤ)) ≤ 2 ^ fp16.scale x :=
          zpow_le_zpow_right₀ one_le_two (le_trans (by decide) hlow)
      _ ≤ fp16.mag x * 2 ^ fp16.scale x := le_mul_of_one_le_left (by positivity) hone
  · calc (fp16.mag x : ℚ) * 2 ^ fp16.scale x ≤ 2 ^ 11 * 2 ^ (6 : ℤ) := by
          gcongr
          · exact_mod_cast (fp16_mag_lt x).le
          · exact one_le_two
      _ < 2 ^ (1 + (fp32.bias : ℤ)) := by
          rw [← zpow_natCast, ← zpow_add₀ two_ne_zero]
          exact zpow_lt_zpow_right₀ one_lt_two (by decide)

/-- A finite pattern keeps its value and its sign. -/
theorem fp16ToFp32_finite (h : fp16.isFinite x = true) :
    fp32.isFinite (fp16ToFp32 x) = true ∧ fp32.rat (fp16ToFp32 x) = fp16.rat x ∧
      fp32.sign (fp16ToFp32 x) = fp16.sign x := by
  have hconv : fp16ToFp32 x = fp32.roundFtz (.fin (fp16.sign x) (fp16.mag x) (fp16.scale x)) := by
    simp [fp16ToFp32, Fmt.isNaN_of_isFinite h, Fmt.value, Fmt.isInf_of_isFinite h, Fmt.finite]
  by_cases hmag : fp16.mag x = 0
  · have hzero : fp16ToFp32 x = fp32.zero (fp16.sign x) := by rw [hconv, hmag]; rfl
    rw [hzero, fp16.rat_eq_signedValue, hmag]
    exact Fmt.zero_spec (by decide) _ _
  · have hbits : fp16.mag x < 2 ^ (fp32.fbits + 1) := (fp16_mag_lt x).trans (by decide)
    obtain ⟨hlow, hhigh⟩ := fp16_normal_in_fp32 hmag
    rw [fp16.rat_eq_signedValue] at hlow hhigh ⊢
    obtain ⟨-, -, hexact⟩ :=
      Fmt.roundFtz_exact (f := fp32) (by decide) (by decide) (fp16.sign x) (fp16.scale x) hmag hbits
    obtain ⟨hfin, -, hrat⟩ := hexact hlow hhigh
    rw [← hconv] at hfin hrat
    exact ⟨hfin, hrat, Fmt.sign_of_rat_eq hmag hrat⟩

end Convert

/-! ## One doubleword (R311) -/

theorem toNat_dword_mod (j : ℕ) (v : Zmm) : (lane 32 j v).toNat % 2 ^ 16 = (lane 16 (2 * j) v).toNat := by
  simp only [lane, BitVec.extractLsb'_toNat, show 16 * (2 * j) = 32 * j by ring]
  exact Nat.mod_mod_of_dvd _ (pow_dvd_pow 2 (by norm_num))

theorem toNat_dword_div (j : ℕ) (v : Zmm) : (lane 32 j v).toNat / 2 ^ 16 = (lane 16 (2 * j + 1) v).toNat := by
  simp only [lane, BitVec.extractLsb'_toNat, show 16 * (2 * j + 1) = 32 * j + 16 by ring, Nat.shiftRight_eq_div_pow, pow_add,
    ← Nat.div_div_eq_div_mul]
  omega

/-- The first NaN as a chain of tests, with `d` where no operand is a NaN. -/
theorem Fmt.firstNaN_getD_cons (f : Fmt) (a : ℕ) (l : List ℕ) (d : ℕ) :
    (f.firstNaN (a :: l)).getD d = if f.isNaN a then f.quiet a else (f.firstNaN l).getD d := by
  rw [Fmt.firstNaN]
  split <;> rfl

/-- The first NaN of the operands, else the two accumulations, the second of which keeps a NaN of the first. -/
theorem dphphs_eq (acc x y : ℕ) :
    let e1 := fp16ToFp32 (x % 2 ^ 16)
    let e2 := fp16ToFp32 (y % 2 ^ 16)
    let o1 := fp16ToFp32 (x / 2 ^ 16)
    let o2 := fp16ToFp32 (y / 2 ^ 16)
    let first := fp32.fmaCore false false o1 o2 acc
    dphphs acc x y =
      if fp32.isNaN e1 then fp32.quiet e1 else if fp32.isNaN e2 then fp32.quiet e2
      else if fp32.isNaN o1 then fp32.quiet o1 else if fp32.isNaN o2 then fp32.quiet o2
      else if fp32.isNaN acc then fp32.quiet acc
      else if fp32.isNaN first then first else fp32.fmaCore false false e1 e2 first := by
  intro e1 e2 o1 o2 first
  have hchain : dphphs acc x y = (fp32.firstNaN [e1, e2, o1, o2, acc]).getD (fma32 (fma32 acc o1 o2) e1 e2) := by
    change (match fp32.firstNaN [e1, e2, o1, o2, acc] with | some n => n | none => fma32 (fma32 acc o1 o2) e1 e2) = _
    cases fp32.firstNaN [e1, e2, o1, o2, acc] <;> rfl
  rw [hchain]
  simp only [Fmt.firstNaN_getD_cons]
  cases hacc : fp32.isNaN acc
  · have hfirst : fma32 acc o1 o2 = first := if_neg (by simp [hacc])
    rw [hfirst]
    rfl
  · rfl

/-! ## The statement -/

/-- Settles O50: the conversion keeps finite values, infinities and the sign of a NaN; the form completes with its element
function, the halves of a doubleword being its words. -/
theorem vdphphsResult : Obligations.VdphphsResult := by
  refine ⟨fun x _ => ⟨fp16ToFp32_finite, fp16ToFp32_inf, fp16ToFp32_nan⟩, fun vl o s x hx => ?_⟩
  have hdone : VectorDone (.vdphphs vl o) s 0 32 (vl.bits / 32) fun j =>
      BitVec.ofNat 32 (dphphs (lane 32 j (s.vec o.dest)).toNat (lane 32 j (s.vec o.src1)).toNat (lane 32 j x).toNat) :=
    execVec_silent_done (elem := dphphsElem) hx rfl (dwords_mul_le vl)
  simp only [dphphs_eq, toNat_dword_mod, toNat_dword_div] at hdone
  exact hdone

end Sys2Proof.Machine
end

section
/-! PROOFS. MINMAX on NaNs: the NaN or the number that is selected, the sign control on it, the flags, and the statement
(spec/40_numerics_helpers.md R150 to R158, spec/46_minmax.md R343). -/

namespace Sys2Proof.Machine

/-- The formats of the MINMAX instructions have exponent and fraction bits. -/
theorem Fmt.bits_pos_of_mem : ∀ f ∈ [bf16, fp16, fp32, fp64], 0 < f.ebits ∧ 0 < f.fbits := by decide

section NaN

variable {f : Fmt} {a b r : ℕ}

/-! ## Quieting (R134) -/

theorem Fmt.isNaN_eq_isSNaN_or_isQNaN (f : Fmt) (x : ℕ) : f.isNaN x = (f.isSNaN x || f.isQNaN x) := by
  rw [Fmt.isSNaN, Fmt.isQNaN]
  cases f.isNaN x <;> cases x.testBit (f.fbits - 1) <;> rfl

theorem Fmt.isNaN_of_isSNaN (h : f.isSNaN a = true) : f.isNaN a = true := by
  rw [f.isNaN_eq_isSNaN_or_isQNaN, h, Bool.true_or]

theorem Fmt.isNaN_of_isQNaN (h : f.isQNaN a = true) : f.isNaN a = true := by
  rw [f.isNaN_eq_isSNaN_or_isQNaN, h, Bool.or_true]

theorem Fmt.isSNaN_of_isNaN_eq_false (h : f.isNaN a = false) : f.isSNaN a = false := by
  rw [Fmt.isSNaN, h, Bool.false_and]

theorem Fmt.isSNaN_of_isQNaN (h : f.isQNaN a = true) : f.isSNaN a = false := by
  obtain ⟨-, hbit⟩ := Bool.and_eq_true_iff.1 h
  rw [Fmt.isSNaN, hbit, Bool.not_true, Bool.and_false]

theorem Fmt.quiet_of_isQNaN (h : f.isQNaN a = true) : f.quiet a = a := by
  obtain ⟨-, hbit⟩ := Bool.and_eq_true_iff.1 h
  refine Nat.eq_of_testBit_eq fun i => ?_
  rw [Fmt.quiet, Nat.testBit_or, Nat.testBit_two_pow]
  by_cases hi : f.fbits - 1 = i
  · rw [← hi, hbit, Bool.true_or]
  · rw [decide_eq_false hi, Bool.or_false]

/-- A NaN stays one when it is quieted. -/
theorem Fmt.isNaN_quiet (hfrac : 0 < f.fbits) (ha : a < 2 ^ (1 + f.ebits + f.fbits)) (h : f.isNaN a = true) :
    f.isNaN (f.quiet a) = true := by
  have hexp : f.exp a = f.expOnes := by
    simp only [Fmt.isNaN, Bool.and_eq_true, beq_iff_eq] at h
    exact h.1
  have hlt : f.frac a < 2 ^ f.fbits := Nat.mod_lt _ (Nat.two_pow_pos _)
  have hbit : 2 ^ (f.fbits - 1) < 2 ^ f.fbits := Nat.pow_lt_pow_right one_lt_two (by omega)
  rw [← Fmt.pack_fields ha, Fmt.quiet_pack hfrac _ _ hlt, hexp]
  refine Fmt.isNaN_of_isQNaN (Fmt.isQNaN_pack _ hfrac (Nat.or_lt_two_pow hlt hbit) ?_)
  rw [Nat.testBit_or, Nat.testBit_two_pow_self, Bool.or_true]

/-! ## The selection (R150 to R157) -/

/-- The signaling NaN of the first source, then of the second, then the quiet NaN of the first, then of the second. -/
theorem pickNaN_priority (f : Fmt) (a b : ℕ) :
    (f.isSNaN a = true → pickNaN f a b = f.quiet a) ∧
    (f.isSNaN a = false → f.isSNaN b = true → pickNaN f a b = f.quiet b) ∧
    (f.isSNaN b = false → f.isQNaN a = true → pickNaN f a b = a) ∧
    (f.isNaN a = false → f.isQNaN b = true → pickNaN f a b = b) := by
  refine ⟨fun ha => ?_, fun ha hb => ?_, fun hb ha => ?_, fun ha hb => ?_⟩
  · rw [pickNaN, ha, Bool.true_or, if_pos rfl]
  · rw [pickNaN, ha, hb, Bool.not_true, Bool.and_false, Bool.false_or, if_neg Bool.false_ne_true]
  · rw [pickNaN, hb, Fmt.isNaN_of_isQNaN ha, Bool.not_false, Bool.and_true, Bool.or_true, if_pos rfl,
      Fmt.quiet_of_isQNaN ha]
  · rw [pickNaN, ha, Fmt.isSNaN_of_isNaN_eq_false ha, Bool.false_and, Bool.false_or, if_neg Bool.false_ne_true,
      Fmt.quiet_of_isQNaN hb]

theorem isNaN_pickNaN (hfrac : 0 < f.fbits) (ha : a < 2 ^ (1 + f.ebits + f.fbits))
    (hb : b < 2 ^ (1 + f.ebits + f.fbits)) (h : f.isNaN a = true ∨ f.isNaN b = true) :
    f.isNaN (pickNaN f a b) = true := by
  unfold pickNaN
  split_ifs with hfirst
  · rw [Bool.or_eq_true, Bool.and_eq_true] at hfirst
    exact Fmt.isNaN_quiet hfrac ha (hfirst.elim Fmt.isNaN_of_isSNaN And.left)
  · refine Fmt.isNaN_quiet hfrac hb (h.elim (fun hnan => ?_) id)
    rw [hnan, Bool.true_and, Bool.or_eq_true, not_or, Bool.not_eq_true', Bool.not_eq_false] at hfirst
    exact Fmt.isNaN_of_isSNaN hfirst.2

theorem minmaxSelect_nan {number : Bool} (h : f.isNaN a = true ∨ f.isNaN b = true)
    (hsel : f.isNaN a = true ∧ f.isNaN b = true ∨ number = false) (sel : ℕ) :
    minmaxSelect f sel number a b = pickNaN f a b := by
  unfold minmaxSelect
  rcases hsel with ⟨ha, hb⟩ | rfl
  · simp [ha, hb]
  · cases ha : f.isNaN a
    · simp [h.resolve_left (ne_true_of_eq_false ha)]
    · simp

theorem minmaxSelect_number_right (ha : f.isNaN a = true) (hb : f.isNaN b = false) (sel : ℕ) :
    minmaxSelect f sel true a b = b := by
  simp [minmaxSelect, ha, hb]

theorem minmaxSelect_number_left (ha : f.isNaN a = false) (hb : f.isNaN b = true) (sel : ℕ) :
    minmaxSelect f sel true a b = a := by
  simp [minmaxSelect, ha, hb]

theorem minmaxSelect_numbers (ha : f.isNaN a = false) (hb : f.isNaN b = false) (sel : ℕ) (number : Bool) :
    minmaxSelect f sel number a b = pickSelected f sel a b := by
  simp [minmaxSelect, ha, hb]

/-! ## The control fields of imm8 and the sign control (R158, R341) -/

theorem toNat_minmaxOperation (imm : BitVec 8) : (imm.extractLsb' 0 2).toNat = imm.toNat % 4 := by
  rw [BitVec.extractLsb'_toNat, Nat.shiftRight_zero]

theorem toNat_minmaxSign (imm : BitVec 8) : (imm.extractLsb' 2 2).toNat = imm.toNat / 4 % 4 := by
  rw [BitVec.extractLsb'_toNat, Nat.shiftRight_eq_div_pow]

theorem getLsbD_minmaxSign (imm : BitVec 8) :
    (imm.extractLsb' 2 2).getLsbD 0 = imm.getLsbD 2 ∧ (imm.extractLsb' 2 2).getLsbD 1 = imm.getLsbD 3 := by
  simp

theorem signCode_cases : ∀ control : BitVec 2, control = 0 ∨ control = 1 ∨ control = 2 ∨ control = 3 := by decide

theorem signControl_nan (h : f.isNaN r = true) (sc a : ℕ) : signControl f sc a r = r := if_pos h

/-- The sign control on a number by its bits: 10 and 11 set the sign, 01 leaves it, 00 takes that of the first operand. -/
theorem signControl_number (h : f.isNaN r = false) (control : BitVec 2) (a : ℕ) :
    signControl f control.toNat a r =
      if control.getLsbD 1 then f.pack (control.getLsbD 0) (f.exp r) (f.frac r)
      else if control.getLsbD 0 || f.isNaN a then r
      else f.pack (f.sign a) (f.exp r) (f.frac r) := by
  rw [signControl, if_neg (ne_true_of_eq_false h)]
  rcases signCode_cases control with rfl | rfl | rfl | rfl <;> rfl

/-- Beside a NaN the number keeps its sign under 00 too: the first operand is the NaN or the number itself. -/
theorem signControl_beside_nan (h : f.isNaN r = false) (ha : f.isNaN a = true ∨ r = a)
    (hr : r < 2 ^ (1 + f.ebits + f.fbits)) (control : BitVec 2) :
    signControl f control.toNat a r =
      if control.getLsbD 1 then f.pack (control.getLsbD 0) (f.exp r) (f.frac r) else r := by
  rw [signControl_number h]
  refine ite_congr rfl (fun _ => rfl) fun _ => ?_
  split_ifs with hkeep
  · rfl
  · rw [Bool.or_eq_true, not_or] at hkeep
    rw [← ha.resolve_left hkeep.2, Fmt.pack_fields hr]

/-! ## `minmax` after DAZ (R158) -/

theorem minmax_eq_of_daz (f : Fmt) (imm : BitVec 8) (daz except : Bool) (x y : ℕ) :
    minmax f imm daz except x y =
      minmax f imm false except (if daz then f.daz x else x) (if daz then f.daz y else y) := rfl

theorem minmax_fst (f : Fmt) (imm : BitVec 8) (except : Bool) (a b : ℕ) :
    (minmax f imm false except a b).1 = signControl f (imm.extractLsb' 2 2).toNat a
      (minmaxSelect f (imm.extractLsb' 0 2).toNat (imm.getLsbD 4) a b) := by
  rw [toNat_minmaxOperation, toNat_minmaxSign]
  rfl

theorem minmax_snd (f : Fmt) (imm : BitVec 8) (except : Bool) (a b : ℕ) :
    (minmax f imm false except a b).2 = if except then minmaxFlags f a b else 0 := rfl

theorem minmaxFlags_nan (h : f.isNaN a = true ∨ f.isNaN b = true) :
    minmaxFlags f a b = if f.isSNaN a || f.isSNaN b then 1 else 0 := by
  unfold minmaxFlags
  rw [← Bool.or_eq_true] at h
  rw [if_pos h]
  rfl

theorem minmaxFlags_numbers (ha : f.isNaN a = false) (hb : f.isNaN b = false) :
    minmaxFlags f a b = if f.isDenormal a || f.isDenormal b then 2 else 0 := by
  unfold minmaxFlags
  rw [Fmt.isSNaN_of_isNaN_eq_false ha, Fmt.isSNaN_of_isNaN_eq_false hb, ha, hb]
  rfl

/-- Flags under `except` and a condition. -/
theorem minmax_snd_of_flags {except c : Bool} {F : Flags} (h : minmaxFlags f a b = if c then F else 0) (imm : BitVec 8) :
    (minmax f imm false except a b).2 = if except && c then F else 0 := by
  rw [minmax_snd, h]
  cases except <;> rfl

/-- Where a NaN is selected it is the result. -/
theorem minmax_fst_nan {imm : BitVec 8} (hfrac : 0 < f.fbits) (ha : a < 2 ^ (1 + f.ebits + f.fbits))
    (hb : b < 2 ^ (1 + f.ebits + f.fbits)) (h : f.isNaN a = true ∨ f.isNaN b = true)
    (hsel : f.isNaN a = true ∧ f.isNaN b = true ∨ imm.getLsbD 4 = false) (except : Bool) :
    (minmax f imm false except a b).1 = pickNaN f a b := by
  rw [minmax_fst, minmaxSelect_nan h hsel, signControl_nan (isNaN_pickNaN hfrac ha hb h)]

/-- With imm8[4] = 1 the number beside a NaN is the result, with the sign that the control sets. -/
theorem minmax_fst_number {imm : BitVec 8} (hselect : minmaxSelect f (imm.extractLsb' 0 2).toNat (imm.getLsbD 4) a b = r)
    (h : f.isNaN r = false) (ha : f.isNaN a = true ∨ r = a) (hr : r < 2 ^ (1 + f.ebits + f.fbits)) (except : Bool) :
    (minmax f imm false except a b).1 =
      if imm.getLsbD 3 then f.pack (imm.getLsbD 2) (f.exp r) (f.frac r) else r := by
  obtain ⟨hlow, hhigh⟩ := getLsbD_minmaxSign imm
  rw [minmax_fst, hselect, signControl_beside_nan h ha hr, hlow, hhigh]

theorem Fmt.dazIf_lt {x : ℕ} (hx : x < 2 ^ (1 + f.ebits + f.fbits)) (daz : Bool) :
    (if daz then f.daz x else x) < 2 ^ (1 + f.ebits + f.fbits) := by
  cases daz
  · exact hx
  · exact Fmt.daz_lt hx

end NaN

/-- Settles O53: where a NaN is selected it is the one `pickNaN` gives by priority; beside a NaN with imm8[4] = 1 it is the
number under the sign control. -/
theorem minmaxNaN : Obligations.MinmaxNaN := by
  intro f hf imm daz except x y hx hy
  have hfrac : 0 < f.fbits := (Fmt.bits_pos_of_mem f hf).2
  rw [minmax_eq_of_daz]
  have ha := Fmt.dazIf_lt hx daz
  have hb := Fmt.dazIf_lt hy daz
  generalize (if daz then f.daz x else x) = a, (if daz then f.daz y else y) = b at *
  refine ⟨fun h => minmax_snd_of_flags (minmaxFlags_nan h) imm, fun hsel => ?_, fun h4 hna hnb => ?_,
    fun h4 hna hnb => ?_⟩
  · have hresult h := minmax_fst_nan hfrac ha hb h hsel except
    obtain ⟨hsa, hsb, hqa, hqb⟩ := pickNaN_priority f a b
    exact ⟨fun h => (hresult (.inl (Fmt.isNaN_of_isSNaN h))).trans (hsa h),
      fun h h' => (hresult (.inr (Fmt.isNaN_of_isSNaN h'))).trans (hsb h h'),
      fun h h' => (hresult (.inl (Fmt.isNaN_of_isQNaN h'))).trans (hqa h h'),
      fun h h' => (hresult (.inr (Fmt.isNaN_of_isQNaN h'))).trans (hqb h h')⟩
  · exact minmax_fst_number (by rw [h4, minmaxSelect_number_right hna hnb]) hnb (.inl hna) hb except
  · exact minmax_fst_number (by rw [h4, minmaxSelect_number_left hna hnb]) hna (.inr rfl) ha except

end Sys2Proof.Machine
end

section
/-! PROOFS. MINMAX of two numbers: each operation chooses the least or the greatest in the order of an integer key, and the
statement (spec/46_minmax.md R341, R342). -/

namespace Sys2Proof.Machine

/-! ## Choosing by a key -/

/-- The operand that a choice keeps when it compares by `k`. -/
def Pick.choose (p : Pick) (k : ℕ → ℤ) (a b : ℕ) : ℕ := if p.keeps (k a) (k b) then a else b

theorem Pick.keeps_min_iff (i j : ℤ) : Pick.min.keeps i j = true ↔ i ≤ j := decide_eq_true_iff

theorem Pick.keeps_max_iff (i j : ℤ) : Pick.max.keeps i j = true ↔ j ≤ i := decide_eq_true_iff

/-- A choice depends only on how the keys of its operands compare. -/
theorem Pick.choose_congr (p : Pick) {k k' : ℕ → ℤ} {a b : ℕ} (hle : k a ≤ k b ↔ k' a ≤ k' b)
    (hge : k b ≤ k a ↔ k' b ≤ k' a) : p.choose k a b = p.choose k' a b := by
  cases p
  · exact if_congr (by simpa only [Pick.keeps_min_iff] using hle) rfl rfl
  · exact if_congr (by simpa only [Pick.keeps_max_iff] using hge) rfl rfl

theorem Pick.choose_eq_or (p : Pick) (k : ℕ → ℤ) (a b : ℕ) : p.choose k a b = a ∨ p.choose k a b = b :=
  ite_eq_or_eq _ _ _

theorem Pick.min_choose_le (k : ℕ → ℤ) (a b : ℕ) :
    k (Pick.min.choose k a b) ≤ k a ∧ k (Pick.min.choose k a b) ≤ k b := by
  unfold Pick.choose
  split_ifs with h <;> rw [Pick.keeps_min_iff] at h
  · exact ⟨le_rfl, h⟩
  · exact ⟨(not_le.1 h).le, le_rfl⟩

theorem Pick.le_max_choose (k : ℕ → ℤ) (a b : ℕ) :
    k a ≤ k (Pick.max.choose k a b) ∧ k b ≤ k (Pick.max.choose k a b) := by
  unfold Pick.choose
  split_ifs with h <;> rw [Pick.keeps_max_iff] at h
  · exact ⟨le_rfl, h⟩
  · exact ⟨(not_le.1 h).le, le_rfl⟩

section Order

variable {number : ℕ → Prop} {lt : ℕ → ℕ → Prop} {k : ℕ → ℤ} {a b : ℕ}

/-- The minimum by a key is the least in an order that the key reflects. -/
theorem Pick.min_choose_least (hlt : ∀ {m n}, number m → number n → (lt m n ↔ k m < k n)) (ha : number a)
    (hb : number b) :
    (Pick.min.choose k a b = a ∨ Pick.min.choose k a b = b) ∧ ¬ lt a (Pick.min.choose k a b) ∧
      ¬ lt b (Pick.min.choose k a b) := by
  have hor := Pick.min.choose_eq_or k a b
  obtain ⟨hale, hble⟩ := Pick.min_choose_le k a b
  have hr : number (Pick.min.choose k a b) := by rcases hor with h | h <;> rwa [h]
  exact ⟨hor, mt (hlt ha hr).1 (not_lt.2 hale), mt (hlt hb hr).1 (not_lt.2 hble)⟩

/-- The maximum by a key is the greatest in an order that the key reflects. -/
theorem Pick.max_choose_greatest (hlt : ∀ {m n}, number m → number n → (lt m n ↔ k m < k n)) (ha : number a)
    (hb : number b) :
    (Pick.max.choose k a b = a ∨ Pick.max.choose k a b = b) ∧ ¬ lt (Pick.max.choose k a b) a ∧
      ¬ lt (Pick.max.choose k a b) b := by
  have hor := Pick.max.choose_eq_or k a b
  obtain ⟨hale, hble⟩ := Pick.le_max_choose k a b
  have hr : number (Pick.max.choose k a b) := by rcases hor with h | h <;> rwa [h]
  exact ⟨hor, mt (hlt hr ha).1 (not_lt.2 hale), mt (hlt hr hb).1 (not_lt.2 hble)⟩

end Order

section Keys

variable {f : Fmt} {m n a b : ℕ}

/-! ## The two orders (R341) -/

/-- Orders the numbers by value, -0 below +0. -/
def Fmt.valueKey (f : Fmt) (x : ℕ) : ℤ := 2 * f.key x - (f.sign x).toNat

/-- Orders the numbers by magnitude, of two equal magnitudes the negative one first. -/
def Fmt.magnitudeKey (f : Fmt) (x : ℕ) : ℤ := 2 * f.magKey x - (f.sign x).toNat

theorem Fmt.key_eq (f : Fmt) (x : ℕ) : f.key x = if f.sign x then -(f.magKey x : ℤ) else f.magKey x := rfl

theorem Fmt.isZero_iff_magKey (x : ℕ) : f.isZero x = true ↔ f.magKey x = 0 := by
  rw [Fmt.magKey, Fmt.mod_eq_fields, Fmt.isZero, Bool.and_eq_true, beq_iff_eq, beq_iff_eq, Nat.add_eq_zero_iff,
    Nat.mul_eq_zero, or_iff_left (Nat.two_pow_pos _).ne']

/-- The order of the values in which -0 is less than +0. -/
def Fmt.Below (f : Fmt) (m n : ℕ) : Prop :=
  f.valueLt m n ∨ (f.isZero m = true ∧ f.isZero n = true ∧ f.sign m = true ∧ f.sign n = false)

/-- The order of the magnitudes. -/
def Fmt.Nearer (f : Fmt) (m n : ℕ) : Prop :=
  f.valueLt (f.pack false (f.exp m) (f.frac m)) (f.pack false (f.exp n) (f.frac n))

theorem Fmt.below_iff (he : 0 < f.ebits) (hm : f.isNaN m = false) (hn : f.isNaN n = false) :
    f.Below m n ↔ f.valueKey m < f.valueKey n := by
  rw [Fmt.Below, Fmt.valueLt_iff he hm hn, Fmt.isZero_iff_magKey, Fmt.isZero_iff_magKey, Fmt.valueKey, Fmt.valueKey,
    Fmt.key_eq, Fmt.key_eq]
  cases f.sign m <;> cases f.sign n <;> simp <;> omega

theorem Fmt.nearer_iff (he : 0 < f.ebits) (hm : f.isNaN m = false) (hn : f.isNaN n = false) :
    f.Nearer m n ↔ f.magKey m < f.magKey n := by
  have hexp x : f.exp x < 2 ^ f.ebits := Nat.mod_lt _ (Nat.two_pow_pos _)
  have hfrac x : f.frac x < 2 ^ f.fbits := Nat.mod_lt _ (Nat.two_pow_pos _)
  have hnan x : f.isNaN (f.pack false (f.exp x) (f.frac x)) = f.isNaN x := by
    rw [Fmt.isNaN, Fmt.exp_pack false (hexp x) (hfrac x), Fmt.frac_pack false (hfrac x), Fmt.isNaN]
  have hkey x : f.key (f.pack false (f.exp x) (f.frac x)) = f.magKey x := by
    rw [Fmt.key_eq, Fmt.sign_pack false (hexp x) (hfrac x), Fmt.magKey, Fmt.magKey, Fmt.mod_eq_fields,
      Fmt.exp_pack false (hexp x) (hfrac x), Fmt.frac_pack false (hfrac x), ← Fmt.mod_eq_fields]
    rfl
  rw [Fmt.Nearer, Fmt.valueLt_iff he (by rwa [hnan]) (by rwa [hnan]), hkey, hkey, Nat.cast_lt]

theorem Fmt.nearer_or_below_iff (he : 0 < f.ebits) (hm : f.isNaN m = false) (hn : f.isNaN n = false) :
    f.Nearer m n ∨ ¬ f.Nearer n m ∧ f.Below m n ↔ f.magnitudeKey m < f.magnitudeKey n := by
  rw [Fmt.nearer_iff he hm hn, Fmt.nearer_iff he hn hm, Fmt.below_iff he hm hn, Fmt.valueKey, Fmt.valueKey,
    Fmt.magnitudeKey, Fmt.magnitudeKey, Fmt.key_eq, Fmt.key_eq]
  cases f.sign m <;> cases f.sign n <;> simp <;> omega

/-! ## The operations as choices (R150, R152, R154, R156) -/

/-- Of two zeros of opposite sign the minimum is -0, the maximum +0. -/
theorem zero_eq_choose (p : Pick) (hza : f.isZero a = true) (hzb : f.isZero b = true) (hsign : f.sign b = !f.sign a)
    (ha : a < 2 ^ (1 + f.ebits + f.fbits)) (hb : b < 2 ^ (1 + f.ebits + f.fbits)) :
    f.zero (p == .min) = p.choose f.valueKey a b := by
  have hakey := (Fmt.isZero_iff_magKey a).1 hza
  have hbkey := (Fmt.isZero_iff_magKey b).1 hzb
  have hazero := (Fmt.eq_zero_iff ha _).2 ⟨hza, rfl⟩
  have hbzero := (Fmt.eq_zero_iff hb _).2 ⟨hzb, rfl⟩
  rw [Pick.choose, Fmt.valueKey, Fmt.valueKey, Fmt.key_eq, Fmt.key_eq, hakey, hbkey, hsign]
  rw [hsign] at hbzero
  cases hs : f.sign a <;> rw [hs] at hazero hbzero <;> cases p
  · exact hbzero.symm
  · exact hazero.symm
  · exact hazero.symm
  · exact hbzero.symm

/-- The minimum or the maximum by value: of equal numbers other than two opposite zeros it does not matter which is kept. -/
theorem pickNumber_eq_choose (p : Pick) (ha : a < 2 ^ (1 + f.ebits + f.fbits)) (hb : b < 2 ^ (1 + f.ebits + f.fbits)) :
    pickNumber f p a b = p.choose f.valueKey a b := by
  have hza := Fmt.isZero_iff_magKey (f := f) a
  have hzb := Fmt.isZero_iff_magKey (f := f) b
  by_cases hopposite : f.isZero a = true ∧ f.isZero b = true ∧ f.sign b = !f.sign a
  · obtain ⟨ha0, hb0, hsign⟩ := hopposite
    rw [← zero_eq_choose p ha0 hb0 hsign ha hb]
    exact if_pos (by rw [ha0, hb0, hsign]; cases f.sign a <;> rfl)
  · have hnumber : pickNumber f p a b = p.choose f.key a b := by
      refine if_neg fun h => hopposite ?_
      simp only [Bool.and_eq_true, bne_iff_ne] at h
      obtain ⟨⟨ha0, hb0⟩, hsign⟩ := h
      exact ⟨ha0, hb0, Bool.eq_not.2 hsign.symm⟩
    have hsame : f.key a = f.key b → (f.sign a).toNat = (f.sign b).toNat := by
      rw [hza, hzb] at hopposite
      rw [Fmt.key_eq, Fmt.key_eq]
      cases hsa : f.sign a <;> cases hsb : f.sign b <;> simp [hsa, hsb] at hopposite ⊢ <;> omega
    have hsa := (f.sign a).toNat_le
    have hsb := (f.sign b).toNat_le
    rw [hnumber]
    refine p.choose_congr ?_ ?_ <;> rw [Fmt.valueKey, Fmt.valueKey] <;> omega

/-- The minimum or the maximum by magnitude, of equal magnitudes by value. -/
theorem pickMagnitude_eq_choose (p : Pick) (ha : a < 2 ^ (1 + f.ebits + f.fbits))
    (hb : b < 2 ^ (1 + f.ebits + f.fbits)) : pickMagnitude f p a b = p.choose f.magnitudeKey a b := by
  by_cases heq : f.magKey a = f.magKey b
  · have hmag : pickMagnitude f p a b = p.choose f.valueKey a b := (if_pos heq).trans (pickNumber_eq_choose p ha hb)
    rw [hmag]
    refine p.choose_congr ?_ ?_ <;>
      rw [Fmt.valueKey, Fmt.valueKey, Fmt.magnitudeKey, Fmt.magnitudeKey, Fmt.key_eq, Fmt.key_eq, heq] <;>
      cases f.sign a <;> cases f.sign b <;> simp <;> omega
  · have hmag : pickMagnitude f p a b = p.choose (fun x => f.magKey x) a b := if_neg heq
    have hsa := (f.sign a).toNat_le
    have hsb := (f.sign b).toNat_le
    rw [hmag]
    refine p.choose_congr ?_ ?_ <;> rw [Fmt.magnitudeKey, Fmt.magnitudeKey] <;> omega

/-- The operation of imm8[1:0]: the minimum or the maximum by its key. -/
theorem pickSelected_eq_choose (ha : a < 2 ^ (1 + f.ebits + f.fbits)) (hb : b < 2 ^ (1 + f.ebits + f.fbits)) :
    pickSelected f 0 a b = Pick.min.choose f.valueKey a b ∧ pickSelected f 1 a b = Pick.max.choose f.valueKey a b ∧
    pickSelected f 2 a b = Pick.min.choose f.magnitudeKey a b ∧
    pickSelected f 3 a b = Pick.max.choose f.magnitudeKey a b :=
  ⟨pickNumber_eq_choose _ ha hb, pickNumber_eq_choose _ ha hb, pickMagnitude_eq_choose _ ha hb,
    pickMagnitude_eq_choose _ ha hb⟩

theorem isNaN_pickSelected (ha : a < 2 ^ (1 + f.ebits + f.fbits)) (hb : b < 2 ^ (1 + f.ebits + f.fbits))
    (hna : f.isNaN a = false) (hnb : f.isNaN b = false) (sel : ℕ) : f.isNaN (pickSelected f sel a b) = false := by
  obtain ⟨p, k, hchoose⟩ : ∃ p k, pickSelected f sel a b = Pick.choose p k a b := by
    match sel with
    | 0 => exact ⟨_, _, pickNumber_eq_choose .min ha hb⟩
    | 1 => exact ⟨_, _, pickNumber_eq_choose .max ha hb⟩
    | 2 => exact ⟨_, _, pickMagnitude_eq_choose .min ha hb⟩
    | _ + 3 => exact ⟨_, _, pickMagnitude_eq_choose .max ha hb⟩
  rcases p.choose_eq_or k a b with h | h <;> rwa [hchoose, h]

/-! ## The sign control of two numbers (R158, Table 11.2) -/

/-- The sign control on a number chosen from two: 01 leaves it, 00 sets the sign of the first operand, 10 and 11 set
their own. -/
theorem signControl_numbers {r : ℕ} (hr : f.isNaN r = false) (ha : f.isNaN a = false) (control : BitVec 2) :
    signControl f control.toNat a r =
      if control = 1#2 then r
      else f.pack (if control = 0#2 then f.sign a else control.getLsbD 0) (f.exp r) (f.frac r) := by
  rw [signControl_number hr, ha]
  rcases signCode_cases control with rfl | rfl | rfl | rfl <;> rfl

theorem Fmt.isNaN_dazIf (he : 0 < f.ebits) {x : ℕ} (hx : f.isNaN x = false) (daz : Bool) :
    f.isNaN (if daz then f.daz x else x) = false := by
  cases daz
  · exact hx
  · exact (Fmt.isNaN_daz he x).trans hx

theorem Fmt.sign_dazIf (daz : Bool) (x : ℕ) : f.sign (if daz then f.daz x else x) = f.sign x := by
  cases daz
  · rfl
  · exact Fmt.sign_daz x

end Keys

/-- Settles O54: each operation is a choice by a key that orders the numbers as its relation does, so the chosen operand is
the extreme one. -/
theorem minmaxNumbers : Obligations.MinmaxNumbers := by
  intro f hf imm daz except x y hx hy hnx hny
  have he : 0 < f.ebits := (Fmt.bits_pos_of_mem f hf).1
  rw [minmax_eq_of_daz, ← f.sign_dazIf daz x]
  have ha := Fmt.dazIf_lt hx daz
  have hb := Fmt.dazIf_lt hy daz
  have hna := Fmt.isNaN_dazIf he hnx daz
  have hnb := Fmt.isNaN_dazIf he hny daz
  generalize (if daz then f.daz x else x) = a, (if daz then f.daz y else y) = b at *
  obtain ⟨hmin, hmax, hminmag, hmaxmag⟩ := pickSelected_eq_choose (f := f) ha hb
  refine ⟨minmax_snd_of_flags (minmaxFlags_numbers hna hnb) imm, pickSelected f (imm.extractLsb' 0 2).toNat a b,
    fun h => ?_, fun h => ?_, fun h => ?_, fun h => ?_, ?_⟩
  · rw [h, BitVec.toNat_ofNat, hmin]
    exact Pick.min_choose_least (Fmt.below_iff he) hna hnb
  · rw [h, BitVec.toNat_ofNat, hmax]
    exact Pick.max_choose_greatest (Fmt.below_iff he) hna hnb
  · rw [h, BitVec.toNat_ofNat, hminmag]
    exact Pick.min_choose_least (Fmt.nearer_or_below_iff he) hna hnb
  · rw [h, BitVec.toNat_ofNat, hmaxmag]
    exact Pick.max_choose_greatest (Fmt.nearer_or_below_iff he) hna hnb
  · rw [minmax_fst, minmaxSelect_numbers hna hnb, signControl_numbers (isNaN_pickSelected ha hb hna hnb _) hna,
      (getLsbD_minmaxSign imm).1]

end Sys2Proof.Machine
end

section
/-! PROOFS. When the MINMAX instructions complete and with which elements and flags, and the statement on the seven forms
(spec/46_minmax.md R342 to R351). -/

namespace Sys2Proof.Machine

/-! ## Scalar forms with a vector destination (R347, R432) -/

/-- Element 0 of a scalar result. -/
theorem lane_zero_scalarResult {w : ℕ} (active z : Bool) (old src1 : Zmm) (r : BitVec w) (hw : w ≤ 128) :
    lane w 0 (scalarResult w active z old src1 r) = if active then r else if z then 0 else lane w 0 old := by
  refine BitVec.eq_of_getLsbD_eq fun b hb => ?_
  rw [lane, BitVec.getLsbD_extractLsb', decide_eq_true hb, Bool.true_and, Nat.mul_zero, Nat.zero_add,
    getLsbD_scalarResult w active z old src1 r hw, if_pos hb]

/-- Flags that are not quiet raise before the destination is written. -/
theorem execScalar_raises {i : Instr} {s : State} {x : Zmm} {w : ℕ} {elem : Sources → Elem w} (hx : Runs i s x)
    (hv : i.parts.vl = .v128) (he : exec i s = execScalar i.parts.op i.parts.raw w elem s)
    (hc : i.parts.op.info.cls.consultsMasks = true)
    (hq : ¬ Quiet s i.parts.raw.rm.loc (when (s.active i.parts.raw.aaa 0) (elem (s.sources i.parts.raw x)).2)) :
    exec i s = raise (if s.cr4.getLsbD 10 then .xm else .ud)
      (s.orFlags (when (s.active i.parts.raw.aaa 0) (elem (s.sources i.parts.raw x)).2)) := by
  obtain ⟨hsae, hunmasked⟩ := not_or.1 hq
  have hs := hx.source
  rw [hv] at hs
  rw [he, execScalar, guarded_source hx.ready hs, signal_raises hc (Bool.eq_false_iff.2 hsae) hunmasked]

/-! ## The packed forms (R344, R345, R346, R348) -/

/-- The instruction is `minmax` of the elements of `o` in the format `f` of width `w`, with its `daz` and `except`. -/
structure MinmaxPacked (i : Instr) (vl : VL) (o : VecOp3) (imm : BitVec 8) (f : Fmt) (w : ℕ) (dazed : State → Bool)
    (except : Bool) : Prop where
  raw_eq : i.parts.raw = o.raw imm
  exec_eq : ∀ s, exec i s =
    execVec i.parts.op i.parts.vl i.parts.raw w (vl.bits / w) (minmaxElem f w imm (dazed s) except) s
  width_le : w * (vl.bits / w) ≤ 512
  consultsMasks : except = true → i.parts.op.info.cls.consultsMasks = true

/-- Each of the four packed forms. -/
theorem minmaxPacked_of_mem {c : VL → VecOp3 → BitVec 8 → Instr} {f : Fmt} {w : ℕ} {dazed : State → Bool}
    {except : Bool} (h : (c, f, w, dazed, except) ∈
      [(Instr.vminmaxbf16, bf16, 16, fun _ : State => true, false), (Instr.vminmaxph, fp16, 16, fun _ => false, true),
       (Instr.vminmaxps, fp32, 32, fun s => s.mxcsr.getLsbD 6, true),
       (Instr.vminmaxpd, fp64, 64, fun s => s.mxcsr.getLsbD 6, true)]) (vl : VL) (o : VecOp3) (imm : BitVec 8) :
    MinmaxPacked (c vl o imm) vl o imm f w dazed except := by
  simp only [List.mem_cons, Prod.mk.injEq, List.not_mem_nil, or_false] at h
  rcases h with ⟨rfl, rfl, rfl, rfl, rfl⟩ | ⟨rfl, rfl, rfl, rfl, rfl⟩ | ⟨rfl, rfl, rfl, rfl, rfl⟩ |
    ⟨rfl, rfl, rfl, rfl, rfl⟩
  · exact ⟨rfl, fun _ => rfl, words_mul_le vl, nofun⟩
  · exact ⟨rfl, fun _ => rfl, words_mul_le vl, fun _ => rfl⟩
  · exact ⟨rfl, fun _ => rfl, dwords_mul_le vl, fun _ => rfl⟩
  · exact ⟨rfl, fun _ => rfl, (Nat.mul_div_le _ _).trans (VL.bits_le vl), fun _ => rfl⟩

section Packed

variable {i : Instr} {vl : VL} {o : VecOp3} {imm : BitVec 8} {f : Fmt} {w : ℕ} {dazed : State → Bool} {except : Bool}
  {s : State} {x : Zmm} {F : Flags}

theorem MinmaxPacked.done (h : MinmaxPacked i vl o imm f w dazed except) (hx : Runs i s x) :
    let r := fun j => minmax f imm (dazed s) except (lane w j (s.vec o.src1)).toNat (lane w j x).toNat
    Collected s o.mask (vl.bits / w) (fun j => (r j).2) F → Quiet s o.rm.loc F →
      VectorDone i s (effectiveFlags o.rm.loc F) w (vl.bits / w) fun j => BitVec.ofNat w (r j).1 := by
  intro r hF hq
  have hdone := execVec_done (F := F) hx (h.exec_eq s) h.width_le (by rw [h.raw_eq]; exact hF)
    (fun _ => by rw [h.raw_eq]; exact hq)
  rw [h.raw_eq] at hdone
  exact hdone

/-- Without `except` there is no flag, so that flags that are not quiet come from a form that consults the masks. -/
theorem MinmaxPacked.raises (h : MinmaxPacked i vl o imm f w dazed except) (hx : Runs i s x) :
    let r := fun j => minmax f imm (dazed s) except (lane w j (s.vec o.src1)).toNat (lane w j x).toNat
    Collected s o.mask (vl.bits / w) (fun j => (r j).2) F → ¬ Quiet s o.rm.loc F →
      exec i s = raise (if s.cr4.getLsbD 10 then .xm else .ud) (s.orFlags F) := by
  intro r hF hq
  have hexcept : except = true := by
    by_contra hsilent
    rw [Bool.not_eq_true] at hsilent
    subst hsilent
    have hzero : F = 0 := (collectFlags_eq hF).symm.trans (collectFlags_zero _ _)
    exact hq (hzero ▸ quiet_zero s _)
  obtain ⟨hsae, hunmasked⟩ := not_or.1 hq
  exact execVec_raises hx (h.exec_eq s) (by rw [h.raw_eq]; exact hF) (h.consultsMasks hexcept)
    (by rw [h.raw_eq]; exact Bool.eq_false_iff.2 hsae) hunmasked

end Packed

/-! ## The scalar forms (R349, R350, R351) -/

/-- The instruction is `minmax` of element 0 of `o` in the format `f` of width `w`, with its `daz`. -/
structure MinmaxScalar (i : Instr) (o : VecOp3) (imm : BitVec 8) (f : Fmt) (w : ℕ) (dazed : State → Bool) : Prop where
  raw_eq : i.parts.raw = o.raw imm
  vl_eq : i.parts.vl = .v128
  exec_eq : ∀ s, exec i s = execScalar i.parts.op i.parts.raw w (fun y => minmaxElem f w imm (dazed s) true y 0) s
  width_le : w ≤ 128
  consultsMasks : i.parts.op.info.cls.consultsMasks = true

/-- Each of the three scalar forms. -/
theorem minmaxScalar_of_mem {c : VecOp3 → BitVec 8 → Instr} {f : Fmt} {w : ℕ} {dazed : State → Bool}
    (h : (c, f, w, dazed) ∈
      [(Instr.vminmaxsh, fp16, 16, fun _ : State => false), (Instr.vminmaxss, fp32, 32, fun s => s.mxcsr.getLsbD 6),
       (Instr.vminmaxsd, fp64, 64, fun s => s.mxcsr.getLsbD 6)]) (o : VecOp3) (imm : BitVec 8) :
    MinmaxScalar (c o imm) o imm f w dazed := by
  simp only [List.mem_cons, Prod.mk.injEq, List.not_mem_nil, or_false] at h
  rcases h with ⟨rfl, rfl, rfl, rfl⟩ | ⟨rfl, rfl, rfl, rfl⟩ | ⟨rfl, rfl, rfl, rfl⟩ <;>
    exact ⟨rfl, rfl, fun _ => rfl, by decide, rfl⟩

section Scalar

variable {i : Instr} {o : VecOp3} {imm : BitVec 8} {f : Fmt} {w : ℕ} {dazed : State → Bool} {s : State} {x : Zmm}

theorem MinmaxScalar.done (h : MinmaxScalar i o imm f w dazed) (hx : Runs i s x) :
    let r := minmax f imm (dazed s) true (lane w 0 (s.vec o.src1)).toNat (lane w 0 x).toNat
    let F : Flags := if s.active o.mask 0 then r.2 else 0
    Quiet s o.rm.loc F →
      ∃ v, exec i s = .next (((s.orFlags (effectiveFlags o.rm.loc F)).setVec o.dest v).advance i.length) ∧
        lane w 0 v = (if s.active o.mask 0 then BitVec.ofNat w r.1 else if o.zero then 0 else lane w 0 (s.vec o.dest)) ∧
        (∀ b, w ≤ b → b < 128 → v.getLsbD b = (s.vec o.src1).getLsbD b) ∧
        ∀ b, 128 ≤ b → v.getLsbD b = false := by
  intro r F hq
  have hdone := execScalar_done hx h.vl_eq (h.exec_eq s) (by rw [h.raw_eq]; exact hq)
  rw [h.raw_eq] at hdone
  refine ⟨_, hdone, lane_zero_scalarResult _ _ _ _ _ h.width_le, fun b hwb hb => ?_, fun b hb => ?_⟩
  · rw [getLsbD_scalarResult _ _ _ _ _ _ h.width_le, if_neg (not_lt.2 hwb), decide_eq_true hb, Bool.true_and]
    rfl
  · rw [getLsbD_scalarResult _ _ _ _ _ _ h.width_le, if_neg (not_lt.2 (h.width_le.trans hb)),
      decide_eq_false (not_lt.2 hb), Bool.false_and]

theorem MinmaxScalar.raises (h : MinmaxScalar i o imm f w dazed) (hx : Runs i s x) :
    let r := minmax f imm (dazed s) true (lane w 0 (s.vec o.src1)).toNat (lane w 0 x).toNat
    let F : Flags := if s.active o.mask 0 then r.2 else 0
    ¬ Quiet s o.rm.loc F → exec i s = raise (if s.cr4.getLsbD 10 then .xm else .ud) (s.orFlags F) := by
  intro r F hq
  have hraise := execScalar_raises hx h.vl_eq (h.exec_eq s) h.consultsMasks (by rw [h.raw_eq]; exact hq)
  rw [h.raw_eq] at hraise
  exact hraise

end Scalar

/-! ## The statement -/

/-- Settles O52: each form is `minmax` with the options of its row; when quiet it completes, otherwise it raises. -/
theorem minmaxResults : Obligations.MinmaxResults := by
  refine ⟨fun c f w dazed except hmem vl o imm s x F hx hF => ?_, fun c f w dazed hmem o imm s x hx => ?_⟩
  · have hform := minmaxPacked_of_mem hmem vl o imm
    exact ⟨hform.done hx hF, hform.raises hx hF⟩
  · have hform := minmaxScalar_of_mem hmem o imm
    exact ⟨hform.done hx, hform.raises hx⟩

end Sys2Proof.Machine
end

section
/-! PROOFS. The saturating converts: when they complete and with which integers and flags, and the statements on the BF16,
the packed and the scalar forms (spec/47_saturating_convert.md R361 to R388). -/

namespace Sys2Proof.Machine

/-! ## The two outcomes of a form that consults the masks (R432) -/

/-- A vector form of a class that consults the masks completes when its flags are quiet and raises otherwise. -/
theorem execVec_done_or_raises {i : Instr} {s : State} {x : Zmm} {w n : ℕ} {elem : Sources → ℕ → Elem w} {F : Flags}
    (hx : Runs i s x) (he : exec i s = execVec i.parts.op i.parts.vl i.parts.raw w n elem s) (hw : w * n ≤ 512)
    (hc : i.parts.op.info.cls.consultsMasks = true)
    (hF : Collected s i.parts.raw.aaa n (fun j => (elem (s.sources i.parts.raw x) j).2) F) :
    (Quiet s i.parts.raw.rm.loc F →
      VectorDone i s (effectiveFlags i.parts.raw.rm.loc F) w n fun j => (elem (s.sources i.parts.raw x) j).1) ∧
    (¬ Quiet s i.parts.raw.rm.loc F → exec i s = raise (if s.cr4.getLsbD 10 then .xm else .ud) (s.orFlags F)) := by
  refine ⟨fun hq => execVec_done hx he hw hF fun _ => hq, fun hq => ?_⟩
  obtain ⟨hsae, hunmasked⟩ := not_or.1 hq
  exact execVec_raises hx he hF hc (Bool.eq_false_iff.2 hsae) hunmasked

/-- Flags that are not quiet raise before the general register is written. -/
theorem execGeneral_raises {i : Instr} {s : State} {x : Zmm} {conv : Sources → Elem 64} (hx : Runs i s x)
    (hv : i.parts.vl = .v128) (he : exec i s = execGeneral i.parts.op i.parts.raw conv s)
    (hc : i.parts.op.info.cls.consultsMasks = true)
    (hq : ¬ Quiet s i.parts.raw.rm.loc (conv (s.sources i.parts.raw x)).2) :
    exec i s = raise (if s.cr4.getLsbD 10 then .xm else .ud) (s.orFlags (conv (s.sources i.parts.raw x)).2) := by
  obtain ⟨hsae, hunmasked⟩ := not_or.1 hq
  have hs := hx.source
  rw [hv] at hs
  rw [he, execGeneral, guarded_source hx.ready hs, signal_raises hc (Bool.eq_false_iff.2 hsae) hunmasked]

/-! ## The BF16 forms (R364 to R367) -/

/-- A BF16 form completes with the saturated bytes. -/
theorem bf16ToByte_done {i : Instr} {s : State} {x : Zmm} {vl : VL} {signed : Bool} {rm : RoundMode} (hx : Runs i s x)
    (he : exec i s =
      execVec i.parts.op i.parts.vl i.parts.raw 16 (vl.bits / 16) (silent (bf16ToByte signed rm)) s) :
    VectorDone i s 0 16 (vl.bits / 16) fun j =>
      (BitVec.ofInt 8 (satCvt bf16 (bf16.daz (lane 16 j x).toNat) signed 8 rm).1).setWidth 16 :=
  execVec_silent_done hx he (words_mul_le vl)

/-- Settles O55: each form is the silent BF16 convert of its signedness and rounding. -/
theorem saturatingBf16Results : Obligations.SaturatingBf16Results := by
  intro c signed rm hmem vl o s x hx
  simp only [List.mem_cons, List.not_mem_nil, or_false] at hmem
  rcases hmem with h | h | h | h <;> cases h <;> exact bf16ToByte_done hx rfl

/-! ## The packed forms (R368 to R383) -/

/-- The instruction converts the elements of `o` from the format `f` of width `ws` to integers of `w` bits in elements of
width `wd`, truncating or rounding by its mode, with MXCSR.DAZ consulted under `dazed`. -/
structure SaturatesPacked (i : Instr) (vl : VL) (o : VecOp2) (f : Fmt) (ws wd w : ℕ) (signed truncates dazed : Bool) :
    Prop where
  raw_eq : i.parts.raw = o.raw
  consultsMasks : i.parts.op.info.cls.consultsMasks = true
  exec_eq : ∀ s, exec i s = execVec i.parts.op i.parts.vl i.parts.raw wd (vl.bits / max ws wd)
    (satElem f ws wd w signed (if truncates then .rtz else s.roundMode o.rm.loc) (dazed && s.daz)) s

/-- Each of the sixteen packed forms. -/
theorem saturatesPacked_of_mem {c : VL → VecOp2 → Instr} {f : Fmt} {ws wd w : ℕ} {signed truncates dazed : Bool}
    (h : (c, f, ws, wd, w, signed, truncates, dazed) ∈
      [(Instr.vcvtph2ibs, fp16, 16, 16, 8, true, false, false),
       (Instr.vcvtph2iubs, fp16, 16, 16, 8, false, false, false),
       (Instr.vcvttph2ibs, fp16, 16, 16, 8, true, true, false),
       (Instr.vcvttph2iubs, fp16, 16, 16, 8, false, true, false),
       (Instr.vcvtps2ibs, fp32, 32, 32, 8, true, false, true),
       (Instr.vcvtps2iubs, fp32, 32, 32, 8, false, false, true),
       (Instr.vcvttps2ibs, fp32, 32, 32, 8, true, true, true),
       (Instr.vcvttps2iubs, fp32, 32, 32, 8, false, true, true),
       (Instr.vcvttpd2dqs, fp64, 64, 32, 32, true, true, true),
       (Instr.vcvttpd2qqs, fp64, 64, 64, 64, true, true, true),
       (Instr.vcvttpd2udqs, fp64, 64, 32, 32, false, true, true),
       (Instr.vcvttpd2uqqs, fp64, 64, 64, 64, false, true, true),
       (Instr.vcvttps2dqs, fp32, 32, 32, 32, true, true, true),
       (Instr.vcvttps2qqs, fp32, 32, 64, 64, true, true, true),
       (Instr.vcvttps2udqs, fp32, 32, 32, 32, false, true, true),
       (Instr.vcvttps2uqqs, fp32, 32, 64, 64, false, true, true)]) (vl : VL) (o : VecOp2) :
    SaturatesPacked (c vl o) vl o f ws wd w signed truncates dazed := by
  simp only [List.mem_cons, List.not_mem_nil, or_false] at h
  rcases h with h | h | h | h | h | h | h | h | h | h | h | h | h | h | h | h <;> cases h <;>
    exact ⟨rfl, rfl, fun _ => rfl⟩

/-- The destination elements fit the register: there are as many as elements of the wider width fill the vector length. -/
theorem converted_mul_le (vl : VL) (ws wd : ℕ) : wd * (vl.bits / max ws wd) ≤ 512 :=
  calc wd * (vl.bits / max ws wd) ≤ max ws wd * (vl.bits / max ws wd) := Nat.mul_le_mul_right _ (le_max_right ws wd)
    _ ≤ vl.bits := Nat.mul_div_le _ _
    _ ≤ 512 := VL.bits_le vl

/-- A packed form completes with the saturated integers, or raises. -/
theorem SaturatesPacked.done_or_raises {i : Instr} {vl : VL} {o : VecOp2} {f : Fmt} {ws wd w : ℕ}
    {signed truncates dazed : Bool} {s : State} {x : Zmm} {F : Flags}
    (h : SaturatesPacked i vl o f ws wd w signed truncates dazed) (hx : Runs i s x) :
    let n := vl.bits / max ws wd
    let t := fun j => if dazed && s.daz then f.daz (lane ws j x).toNat else (lane ws j x).toNat
    let r := fun j => satCvt f (t j) signed w (if truncates then .rtz else s.roundMode o.rm.loc)
    Collected s o.mask n (fun j => (r j).2) F →
      (Quiet s o.rm.loc F →
        VectorDone i s (effectiveFlags o.rm.loc F) wd n fun j => (BitVec.ofInt w (r j).1).setWidth wd) ∧
      (¬ Quiet s o.rm.loc F → exec i s = raise (if s.cr4.getLsbD 10 then .xm else .ud) (s.orFlags F)) := by
  intro n t r hF
  have hboth := execVec_done_or_raises (F := F) hx (h.exec_eq s) (converted_mul_le vl ws wd) h.consultsMasks
    (by rw [h.raw_eq]; exact hF)
  rw [h.raw_eq] at hboth
  exact hboth

/-- Settles O56: each form is the convert of its row, of a class that consults the masks. -/
theorem saturatingPackedResults : Obligations.SaturatingPackedResults :=
  fun _ _ _ _ _ _ _ _ hmem vl o _ _ _ hx => (saturatesPacked_of_mem hmem vl o).done_or_raises hx

/-! ## The scalar forms (R384 to R388) -/

/-- The result width of a scalar form, `wide` being its `EVEX.W` (R388). -/
def State.resultWidth (s : State) (wide : Bool) : ℕ := if wide then s.wideWidth else 32

theorem State.resultWidth_eq (s : State) (wide : Bool) :
    s.resultWidth wide = if wide = true ∧ s.mode = .mode64 then 64 else 32 := by
  cases wide <;> simp [State.resultWidth, State.wideWidth]

/-- The instruction truncates element 0 of `o` from the format `f` of width `ws` to an integer of its result width. -/
structure SaturatesScalar (i : Instr) (o : GprRm) (f : Fmt) (ws : ℕ) (signed wide : Bool) : Prop where
  raw_eq : i.parts.raw = o.raw
  vl_eq : i.parts.vl = .v128
  consultsMasks : i.parts.op.info.cls.consultsMasks = true
  exec_eq : ∀ s, exec i s =
    execGeneral i.parts.op i.parts.raw (satGeneral f ws (s.resultWidth wide) signed s.daz) s

/-- Each of the eight scalar forms. -/
theorem saturatesScalar_of_mem {c : GprRm → Instr} {f : Fmt} {ws : ℕ} {signed wide : Bool}
    (h : (c, f, ws, signed, wide) ∈
      [(Instr.vcvttsd2sisR32, fp64, 64, true, false), (Instr.vcvttsd2sisR64, fp64, 64, true, true),
       (Instr.vcvttsd2usisR32, fp64, 64, false, false), (Instr.vcvttsd2usisR64, fp64, 64, false, true),
       (Instr.vcvttss2sisR32, fp32, 32, true, false), (Instr.vcvttss2sisR64, fp32, 32, true, true),
       (Instr.vcvttss2usisR32, fp32, 32, false, false), (Instr.vcvttss2usisR64, fp32, 32, false, true)]) (o : GprRm) :
    SaturatesScalar (c o) o f ws signed wide := by
  simp only [List.mem_cons, List.not_mem_nil, or_false] at h
  rcases h with h | h | h | h | h | h | h | h <;> cases h <;> exact ⟨rfl, rfl, rfl, fun _ => rfl⟩

/-- The register field of a scalar form names its general register. -/
theorem setWidth_gprRm_raw_reg (o : GprRm) : o.raw.reg.setWidth 4 = o.dest :=
  BitVec.setWidth_setWidth_of_le o.dest (by decide)

/-- A scalar form completes with the saturated integer, zero extended, or raises. -/
theorem SaturatesScalar.done_or_raises {i : Instr} {o : GprRm} {f : Fmt} {ws : ℕ} {signed wide : Bool} {s : State}
    {x : Zmm} (h : SaturatesScalar i o f ws signed wide) (hx : Runs i s x) :
    let t := if s.daz then f.daz (lane ws 0 x).toNat else (lane ws 0 x).toNat
    let r := satCvt f t signed (s.resultWidth wide) .rtz
    (Quiet s o.rm.loc r.2 →
      exec i s = .next (((s.orFlags (effectiveFlags o.rm.loc r.2)).setGeneral o.dest
        ((BitVec.ofInt (s.resultWidth wide) r.1).setWidth 64)).advance i.length)) ∧
    (¬ Quiet s o.rm.loc r.2 → exec i s = raise (if s.cr4.getLsbD 10 then .xm else .ud) (s.orFlags r.2)) := by
  have hdone := execGeneral_done hx h.vl_eq (h.exec_eq s)
  have hraise := execGeneral_raises hx h.vl_eq (h.exec_eq s) h.consultsMasks
  rw [h.raw_eq, setWidth_gprRm_raw_reg] at hdone
  rw [h.raw_eq] at hraise
  exact ⟨hdone, hraise⟩

/-- Settles O57: each form truncates to its result width, in a class that consults the masks. -/
theorem saturatingScalarResults : Obligations.SaturatingScalarResults := by
  intro c f ws signed wide hmem o s x hx
  rw [← s.resultWidth_eq wide]
  exact (saturatesScalar_of_mem hmem o).done_or_raises hx

end Sys2Proof.Machine
end

section
/-! PROOFS. The partial copies: the load and the store forms complete with the low bits of their source, and the statements
on both (spec/48_partial_copy.md R411 to R414). -/

namespace Sys2Proof.Machine

/-! ## The load forms (R411, R413) -/

/-- Settles O59: both forms are a load, of 32 and of 16 bits. -/
theorem loadResults : Obligations.LoadResults :=
  ⟨rfl, rfl, fun _ _ _ hx => execLoad_done (w := 32) hx rfl rfl, fun _ _ _ hx => execLoad_done (w := 16) hx rfl rfl⟩

/-! ## The store forms (R412, R414) -/

/-- The instruction stores the low `n` bytes of the register of `o` to its r/m operand. -/
structure StoresLow (i : Instr) (o : RegRm) (n : Nat) : Prop where
  raw_eq : i.parts.raw = o.raw
  target : i.op.target = .store
  size_eq : i.op.info.elem = n
  exec_eq : ∀ s, exec i s = execStore i.parts.op i.parts.raw (8 * n) s

/-- Each of the two store forms. -/
theorem storesLow_of_mem {c : RegRm → Instr} {n : Nat}
    (h : (c, n) ∈ [(Instr.vmovdStore, 4), (Instr.vmovwStore, 2)]) (o : RegRm) : StoresLow (c o) o n := by
  simp only [List.mem_cons, List.not_mem_nil, or_false] at h
  rcases h with h | h <;> cases h <;> exact ⟨rfl, rfl, rfl, fun _ => rfl⟩

/-- A store to a register has no memory fault. -/
theorem storeFault_register (s : State) (op : Op) {rm : RM} {r : VReg} (h : rm.loc.register = some r) :
    s.storeFault op rm = none := by
  unfold State.storeFault
  cases hl : rm.loc with
  | reg | regEr | regSae => rfl
  | mem | bcst => rw [hl] at h; cases h

namespace StoresLow

variable {i : Instr} {o : RegRm} {n : Nat} {s : State}

/-- A store without a memory fault completes. -/
theorem done (h : StoresLow i o n) (hr : Ready s i.op) (hf : Fits s i) (hs : s.storeFault i.op o.rm = none) :
    exec i s = .next ((s.stored i.op o.rm (8 * n) (s.vec o.reg)).advance i.length) := by
  have hrm : i.parts.raw.rm = o.rm := congrArg Raw.rm h.raw_eq
  have hreg : i.parts.raw.reg = o.reg := congrArg Raw.reg h.raw_eq
  have hdone := execStore_done hr hf (hrm ▸ hs) (h.exec_eq s)
  rwa [hrm, hreg] at hdone

/-- With a register operand the low bytes are zero extended into it. -/
theorem done_register (h : StoresLow i o n) (hr : Ready s i.op) (hf : Fits s i) {r : VReg}
    (hloc : o.rm.loc.register = some r) :
    exec i s = .next ((s.setVec r (((s.vec o.reg).extractLsb' 0 (8 * n)).setWidth 512)).advance i.length) := by
  rw [h.done hr hf (storeFault_register s i.op hloc), s.stored_register i.op hloc]
  rfl

/-- The access of the store: its address form, and all of its `n` bytes. -/
theorem access (h : StoresLow i o n) {m : MemAccess} (hm : memoryAccess i s = some m) :
    ∃ a, o.rm.loc.addr = some a ∧ m = s.destAccess i.op o.rm a ∧ m.size = n ∧ m.offs = List.range n := by
  have hrm : i.parts.raw.rm = o.rm := congrArg Raw.rm h.raw_eq
  obtain ⟨a, ha⟩ := memoryAccess_addr hm
  have hacc : m = s.destAccess i.op o.rm a := hrm ▸ memoryAccess_store ha hm h.target
  rw [hacc, ← h.size_eq]
  exact ⟨a, hrm ▸ ha, rfl, rfl, rfl⟩

/-- A store to mapped bytes, aligned where alignment checking applies, has no memory fault. -/
theorem storeFault_none (h : StoresLow i o n) {m : MemAccess} (hm : memoryAccess i s = some m)
    (hmap : ∀ k, k < n → (m.kindAt s k).isMapped = true)
    (hac : s.cr0.getLsbD 18 = true ∧ s.eflags.getLsbD 18 = true ∧ s.cpl = 3 → m.ea.toNat % n = 0) :
    s.storeFault i.op o.rm = none := by
  obtain ⟨a, -, -, hsize, hoffs⟩ := h.access hm
  have hmem : s.memFault m = none :=
    memFault_none (fun k hk => hmap k (by simpa [hoffs] using hk))
      fun ⟨ham, hef, hcpl, _⟩ => hsize ▸ hac ⟨ham, hef, hcpl⟩
  have hop : operandFault i.parts s = s.storeFault i.op i.parts.raw.rm := if_pos h.target
  rw [← hmem, ← operandFault_eq_memFault hm, hop, h.raw_eq]
  rfl

/-- With a memory operand the `n` bytes of its access are written, and nothing else. -/
theorem done_memory (h : StoresLow i o n) (hr : Ready s i.op) (hf : Fits s i) {m : MemAccess}
    (hm : memoryAccess i s = some m) (hs : s.storeFault i.op o.rm = none) :
    exec i s = .next ({ s with mem := (s.storeBytes m (s.vec o.reg) n).mem }.advance i.length) := by
  obtain ⟨a, ha, hacc, -, -⟩ := h.access hm
  have hbytes : 8 * n / 8 = n := Nat.mul_div_cancel_left n (by decide)
  rw [h.done hr hf hs, s.stored_memory i.op ha, ← hacc, hbytes, ← State.storeBytes_eq]

end StoresLow

/-- Settles O60: the register is written whole; in memory the store writes byte `k` at the address of offset `k`. -/
theorem storeResults : Obligations.StoreResults := by
  refine ⟨rfl, rfl, fun c n hmem o s hr hf => ?_⟩
  have hstore := storesLow_of_mem hmem o
  refine ⟨fun r hloc => hstore.done_register hr hf hloc, fun m hm hwf hmap hac => ?_⟩
  refine ⟨_, hstore.done_memory hr hf hm (hstore.storeFault_none hm hmap hac), fun a ha => ?_, fun hdistinct k hk => ?_⟩
  · exact State.byteAt_storeBytes_other hwf m _ n a ha
  · refine State.byteAt_storeBytes_same hwf m _ n (fun j hj l hl heq => ?_) k hk
    exact by_contra fun hne => hdistinct j l hj hl hne heq

end Sys2Proof.Machine
end

section
/-! PROOFS. The state a fault leaves, what each operation makes of another privilege level, and the statements on both
(spec/60_exceptions.md R428, R432, R434, R436). -/

namespace Sys2Proof.Machine

/-! ## The state of a fault (R428, R432, R434) -/

/-- An instruction raises an exception that is not #XM in the state before it, or records flags of which one is unmasked,
in a form that consults the masks, and raises #XM or #UD. -/
theorem exec_fault_state {i : Instr} {s : State} {f : Fault} (h : exec i s = .fault f) :
    (f.state = s ∧ f.exc ≠ .xm) ∨
      ∃ F : Flags, f.state = s.orFlags F ∧ i.op.info.cls.consultsMasks = true ∧ i.parts.raw.rm.loc.sae = false ∧
        F &&& ~~~s.masks ≠ 0 ∧ (f.exc = .xm ∨ f.exc = .ud) := by
  have ho := exec_outcome i s
  generalize exec i s = o at h ho
  cases ho with
  | undefined | unavailable =>
    obtain ⟨hexc, hstate⟩ := raise_eq_fault h
    exact .inl ⟨hstate, by rw [hexc]; decide⟩
  | memory e _ he =>
    obtain ⟨hexc, hstate⟩ := raise_eq_fault h
    exact .inl ⟨hstate, by rw [hexc]; exact (operandFault_kind he).2⟩
  | simd F _ _ hsae hc hF =>
    obtain ⟨hexc, hstate⟩ := raise_eq_fault h
    refine .inr ⟨F, hstate, hc, hsae, hF, ?_⟩
    rw [hexc]
    cases s.osxmmexcpt with
    | true => exact .inl rfl
    | false => exact .inr rfl
  | overflow | done => cases h

/-- Settles O16: a fault without a SIMD exception records no flag. -/
theorem faultsArePrecise : Obligations.FaultsArePrecise := by
  intro i s f h
  obtain ⟨hstate, hxm⟩ | ⟨F, hstate, hc, hsae, hF, hexc⟩ := exec_fault_state h
  · exact ⟨0, hstate.trans (orFlags_zero s).symm, fun hsimd => absurd hsimd (by simp [hxm])⟩
  · exact ⟨F, hstate, fun _ => ⟨hc, hsae, hF, hexc⟩⟩

/-! ## Another privilege level (R436) -/

/-- The state with another privilege level. -/
def State.withCpl (s : State) (c : BitVec 2) : State := { s with cpl := c }

/-- The alignment check is the only reader of the privilege level (spec/20_memory.md R69). -/
theorem State.memFault_withCpl {s : State} (h : s.acEnabled = false) (c : BitVec 2) (m : MemAccess) :
    (s.withCpl c).memFault m = s.memFault m := by
  have hmis : (s.withCpl c).misaligned m = s.misaligned m := by
    have h' : (s.withCpl c).acEnabled = false := h
    simp [State.misaligned, h, h']
  unfold State.memFault
  rw [hmis]
  rfl

theorem State.loadBytes_withCpl (s : State) (c : BitVec 2) (m : MemAccess) (l : List Nat) :
    (s.withCpl c).loadBytes m l = s.loadBytes m l := by
  induction l with
  | nil => rfl
  | cons o l ih => rw [State.loadBytes, State.loadBytes, ih]; rfl

theorem State.load_withCpl {s : State} (h : s.acEnabled = false) (c : BitVec 2) (m : MemAccess) :
    (s.withCpl c).load m = s.load m := by
  rw [State.load, State.load, State.memFault_withCpl h, State.loadBytes_withCpl]

theorem State.source_withCpl {s : State} (h : s.acEnabled = false) (c : BitVec 2) (op : Op) (vl : VL) (raw : Raw) :
    (s.withCpl c).source op vl raw = s.source op vl raw := by
  have haccess : ∀ b a, (s.withCpl c).sourceAccess op vl b raw a = s.sourceAccess op vl b raw a := fun _ _ => rfl
  unfold State.source
  simp only [haccess, State.load_withCpl h]
  rfl

theorem State.storeFault_withCpl {s : State} (h : s.acEnabled = false) (c : BitVec 2) (op : Op) (rm : RM) :
    (s.withCpl c).storeFault op rm = s.storeFault op rm := by
  have haccess : ∀ a, (s.withCpl c).destAccess op rm a = s.destAccess op rm a := fun _ => rfl
  unfold State.storeFault
  simp only [haccess, State.memFault_withCpl h]

theorem State.storeBytes_withCpl (s : State) (c : BitVec 2) (m : MemAccess) (v : Zmm) (n : Nat) :
    (s.withCpl c).storeBytes m v n = (s.storeBytes m v n).withCpl c := by
  induction n with
  | zero => rfl
  | succ n ih => rw [State.storeBytes, State.storeBytes, ih]; rfl

theorem State.stored_withCpl (s : State) (c : BitVec 2) (op : Op) (rm : RM) (w : Nat) (v : Zmm) :
    (s.withCpl c).stored op rm w v = (s.stored op rm w v).withCpl c := by
  obtain ⟨r, hr⟩ | ⟨a, -, ha⟩ := rm.loc.register_or_addr
  · rw [State.stored_register _ op hr, State.stored_register _ op hr]; rfl
  · rw [State.stored_memory _ op ha, State.stored_memory _ op ha]
    exact s.storeBytes_withCpl c _ _ _

/-! ## The sequence at another privilege level (spec/30_encoding.md R114) -/

/-- The outcome with the states at another privilege level. -/
def outWithCpl (c : BitVec 2) (o : Out) : Out := outMapState (State.withCpl · c) o

section
variable {s : State} {c : BitVec 2}

theorem raise_withCpl (e : Exc) : raise e (s.withCpl c) = outWithCpl c (raise e s) :=
  (outMapState_raise (State.withCpl · c) e s).symm

theorem guarded_withCpl {op : Op} {rest rest' : Out} (h : rest' = outWithCpl c rest) :
    guarded op (s.withCpl c) rest' = outWithCpl c (guarded op s rest) := by
  have hu : (s.withCpl c).undefinedHere op.info.feature = s.undefinedHere op.info.feature := rfl
  have ht : (s.withCpl c).ts = s.ts := rfl
  simp only [guarded, hu, ht, h, raise_withCpl, apply_ite (outWithCpl c)]

theorem withSource_withCpl (hac : s.acEnabled = false) {op : Op} {vl : VL} {raw : Raw} {rest rest' : Zmm → Out}
    (h : ∀ x, rest' x = outWithCpl c (rest x)) :
    withSource op vl raw (s.withCpl c) rest' = outWithCpl c (withSource op vl raw s rest) := by
  rw [withSource, withSource, State.source_withCpl hac]
  cases s.source op vl raw with
  | error e => exact raise_withCpl e
  | ok x => exact h x

theorem signal_withCpl {op : Op} {loc : Loc} {f : Flags} {rest rest' : State → Out}
    (h : ∀ u : State, rest' (u.withCpl c) = outWithCpl c (rest u)) :
    signal op loc f (s.withCpl c) rest' = outWithCpl c (signal op loc f s rest) := by
  rw [signal_eq, signal_eq, apply_ite (outWithCpl c), ← h, ← raise_withCpl]
  rfl

theorem complete_withCpl {n : Nat} {t : State} (h : t = s.withCpl c) :
    complete n t = outWithCpl c (complete n s) := by
  have hp : (s.withCpl c).pcFits n = s.pcFits n := rfl
  rw [h, complete, complete, hp, apply_ite (outWithCpl c)]
  rfl

end

/-! ## Each kind of destination at another privilege level -/

/-- Without alignment checking a run does the same at every privilege level. -/
def CplFree (run : State → Out) : Prop :=
  ∀ (s : State) (c : BitVec 2), s.acEnabled = false → run (s.withCpl c) = outWithCpl c (run s)

section
variable {op : Op} {vl : VL} {raw : Raw}

theorem execVec_cplFree {w n : Nat} (elem : State → Sources → Nat → Elem w)
    (he : ∀ s c, elem (s.withCpl c) = elem s) : CplFree fun s => execVec op vl raw w n (elem s) s := by
  intro s c hac
  simp only [he]
  exact guarded_withCpl (withSource_withCpl hac fun _ => signal_withCpl fun _ => complete_withCpl rfl)

theorem execScalar_cplFree {w : Nat} (elem : State → Sources → Elem w) (he : ∀ s c, elem (s.withCpl c) = elem s) :
    CplFree fun s => execScalar op raw w (elem s) s := by
  intro s c hac
  simp only [he]
  exact guarded_withCpl (withSource_withCpl hac fun _ => signal_withCpl fun _ => complete_withCpl rfl)

theorem execMask_cplFree {n : Nat} (bitAt : Sources → Nat → Bool) : CplFree (execMask op vl raw n bitAt) :=
  fun _ _ hac => guarded_withCpl (withSource_withCpl hac fun _ => complete_withCpl rfl)

theorem execCompare_cplFree (cmp : State → Sources → BitVec 32 × Flags) (hc : ∀ s c, cmp (s.withCpl c) = cmp s) :
    CplFree fun s => execCompare op raw (cmp s) s := by
  intro s c hac
  simp only [hc]
  exact guarded_withCpl (withSource_withCpl hac fun _ => signal_withCpl fun _ => complete_withCpl rfl)

theorem execGeneral_cplFree (conv : State → Sources → Elem 64) (hc : ∀ s c, conv (s.withCpl c) = conv s) :
    CplFree fun s => execGeneral op raw (conv s) s := by
  intro s c hac
  simp only [hc]
  exact guarded_withCpl (withSource_withCpl hac fun _ => signal_withCpl fun _ => complete_withCpl rfl)

theorem execLoad_cplFree {w : Nat} : CplFree (execLoad op raw w) :=
  fun _ _ hac => guarded_withCpl (withSource_withCpl hac fun _ => complete_withCpl rfl)

theorem execStore_cplFree {w : Nat} : CplFree (execStore op raw w) := by
  intro s c hac
  refine guarded_withCpl ?_
  rw [State.storeFault_withCpl hac]
  cases s.storeFault op raw.rm with
  | some e => exact raise_withCpl e
  | none => exact complete_withCpl (s.stored_withCpl c _ _ _ _)

end

/-! ## Every instruction at another privilege level -/

/-- Element functions read of the state DAZ, the rounding mode and the mode, none of which is the privilege level. The forms
not named below are those with a packed vector destination. -/
theorem exec_cplFree (i : Instr) : CplFree (exec i) := by
  cases i with
  | vcmpbf16 | vfpclassbf16 => exact execMask_cplFree _
  | vcomisbf16 | vcomxsd | vcomxsh | vcomxss | vucomxsd | vucomxsh | vucomxss =>
    exact execCompare_cplFree _ fun _ _ => rfl
  | vminmaxsh o imm => exact execScalar_cplFree (fun _ x => minmaxElem fp16 16 imm false true x 0) fun _ _ => rfl
  | vminmaxss o imm => exact execScalar_cplFree (fun s x => minmaxElem fp32 32 imm s.daz true x 0) fun _ _ => rfl
  | vminmaxsd o imm => exact execScalar_cplFree (fun s x => minmaxElem fp64 64 imm s.daz true x 0) fun _ _ => rfl
  | vcvttsd2sisR32 | vcvttsd2sisR64 | vcvttsd2usisR32 | vcvttsd2usisR64
  | vcvttss2sisR32 | vcvttss2sisR64 | vcvttss2usisR32 | vcvttss2usisR64 =>
    exact execGeneral_cplFree _ fun _ _ => rfl
  | vmovdLoad | vmovwLoad => exact execLoad_cplFree
  | vmovdStore | vmovwStore => exact execStore_cplFree
  | _ => exact execVec_cplFree _ fun _ _ => rfl

/-- Settles O24: with CR0.AM or EFLAGS.AC clear the alignment check is off, and nothing else reads the level. -/
theorem privilegeIndependent : Obligations.PrivilegeIndependent := by
  intro i s c h
  have hac : s.acEnabled = false := Bool.and_eq_false_iff.2 h
  exact exec_cplFree i s c hac

end Sys2Proof.Machine
end
